-- ==== Sys2Proof/Word.lean ====
section
/-! DEFINITION. The word types of the frame codec block: a byte is 8 bits (spec/10_state.md R29), a function id 16 bits,
a message id 32 bits (spec/00_scope.md R8), and a byte sequence is a finite list, index 0 first (R13). -/

namespace Sys2Proof

/-- A byte (R29). -/
abbrev Byte := BitVec 8

/-- A finite sequence of bytes; the first byte has index 0 (R13). -/
abbrev Bytes := List Byte

/-- The 16-bit width of a function id and of the CRC (R8). -/
abbrev Half := BitVec 16

/-- The 32-bit width of a message id, an integer, a float and an exception word (R8, R44). -/
abbrev Word := BitVec 32

end Sys2Proof
end

