-- ==== Sys2Proof/Machine/Bytes.lean ====
section
/-! DEFINITION. Byte order and widening (spec/00_scope.md R13, spec/20_memory.md R40, R45): every multi-byte field is
big-endian, and a 4-byte integer is read in two's complement. -/

namespace Sys2Proof

/-- `BE_n(v)`: the `n` bytes of `v`, most significant first; bits of `v` above `8n` are not stored (R13). -/
def beBytes : Nat → Nat → Bytes
  | 0, _ => []
  | n + 1, v => BitVec.ofNat 8 (v / 256 ^ n) :: beBytes n v

/-- `UBE_n(bs)`: the unsigned number a byte sequence holds, most significant byte first (R13). -/
def ubeNat (bs : Bytes) : Nat := bs.foldl (fun acc b => acc * 256 + b.toNat) 0

/-- `signed_32(w)`: the two's-complement value of a 32-bit pattern (R13, R45). -/
def signed32 (w : Nat) : Int := if w < 2 ^ 31 then (w : Int) else (w : Int) - 2 ^ 32

end Sys2Proof
end

