-- ==== Sys2Proof/DataModel.lean ====
section
/-! DEFINITION. The structured domain of the block (spec/10_state.md R31 to R37): the tagged values, function points,
operation descriptors, requests and responses that commands take and give as records, the error record's kinds
(spec/60_exceptions.md R251), and the result record. A list inside a recursive type is a mutual list type of its own, so
that equality of all of it is decidable. -/

namespace Sys2Proof

/-- The seven data types a function id can name (spec/30_encoding.md R72). Their numbers are the parameter `DT_CODE`. -/
inductive DataType where
  | boolean | enum | integer | float | buffer | exception | string
deriving DecidableEq, Repr, Inhabited

/-- The eight value transcoders, in the order of their `VT` codes 0 to 7 (R62, R110). -/
inductive Tag where
  | boolean | enum | integer | float | buffer | exception | string | json
deriving DecidableEq, Repr, Inhabited

/-- The function type of a function id, codes 0 to 3 in this order (R73). -/
inductive FunctionType where
  | reserve | custom | property | event
deriving DecidableEq, Repr, Inhabited

/-- The derived class of a resource id (R33, R142); `unclassified` is what a custom function id has. -/
inductive ResourceType where
  | common | static | combine | unclassified
deriving DecidableEq, Repr, Inhabited

/-- What `FID.DEC` gives for a function id (spec/42_bitfield_codecs.md R141). -/
structure FidRecord where
  dataType : BitVec 3
  functionType : FunctionType
  resourceId : BitVec 11
  resourceType : ResourceType
deriving DecidableEq, Repr, Inhabited

mutual
/-- A structured-domain value (R32). Text is carried as bytes; `G` carries the flag `asDict` of the flattening pass
(R33, spec/45_parser.md R230). -/
inductive Value where
  | B (b : Bool)
  | N (z : Int)
  | F (w : Word)
  | X (indices : List Nat)
  | Y (bs : Bytes)
  | S (bs : Bytes)
  | J (bs : Bytes)
  | G (fps : FunctionPoints) (asDict : Bool)
  | Absent
deriving DecidableEq, Repr, Inhabited

/-- A decoded function point: its id, the fields of the id, and its value (R33). -/
inductive FunctionPoint where
  | mk (functionId : Half) (fields : FidRecord) (value : Value)
deriving DecidableEq, Repr, Inhabited

/-- The ordered members of a combine group. -/
inductive FunctionPoints where
  | nil
  | cons (head : FunctionPoint) (tail : FunctionPoints)
deriving DecidableEq, Repr, Inhabited
end

/-- The direction bit of an operation code (R34, R66). -/
inductive Operation where
  | request | response
deriving DecidableEq, Repr, Inhabited

/-- The device class bit of an operation code (R34, R66). -/
inductive DeviceKind where
  | device | subDevice
deriving DecidableEq, Repr, Inhabited

/-- The target bit of an operation code (R34, R66). -/
inductive Target where
  | resource | system
deriving DecidableEq, Repr, Inhabited

/-- The method names of an operation descriptor (R34). -/
inductive Method where
  | read | write | notify | reset | recovery | register | deregister | enable | disable | label | upgrade
  | online | offline | deleteTopology
deriving DecidableEq, Repr, Inhabited

/-- The operation descriptor (R34). -/
structure OpDesc where
  method : Method
  target : Target
  type : DeviceKind
  operation : Operation
deriving DecidableEq, Repr, Inhabited

mutual
/-- One entry of `data.params` of a request (R35). -/
inductive Entry where
  | plain (functionId : Half) (valueType : Tag) (value : Value)
  | group (subDeviceGroupId : Half) (subDeviceGroupParams : Entries)
deriving DecidableEq, Repr, Inhabited

/-- An ordered list of request entries. -/
inductive Entries where
  | nil
  | cons (head : Entry) (tail : Entries)
deriving DecidableEq, Repr, Inhabited
end

/-- The operand of `PKG` (R35). `opCode` is D00's `operations.code`; when it is absent the descriptor is used. -/
structure Request where
  rawVersion : Int
  id : Option Word
  operations : OpDesc
  opCode : Option Byte
  code : Option Byte
  groupId : Option Half
  params : Entries
deriving DecidableEq, Repr, Inhabited

/-- A time stamp: an opaque value the host supplies (spec/60_exceptions.md R268). The model copies and compares it and
computes nothing from it. -/
structure TimeStamp where
  token : Nat
deriving DecidableEq, Repr, Inhabited

/-- The `time` of a mode A entry: the stamp of the decode, or the value of an 0xE803 marker (R33, R222). -/
inductive TimeTag where
  | atDecode (now : TimeStamp)
  | marked (v : Value)
deriving DecidableEq, Repr, Inhabited

/-- A mode A entry: a function point with its `time` (R229). -/
structure TimedPoint where
  point : FunctionPoint
  time : TimeTag
deriving DecidableEq, Repr, Inhabited

/-- `data.params` of a response (R36, R229, R231): device level, a list of pairs; sub-device level, a list of groups, whose
entries are function points with a time in mode A and bare values in mode B. Every dictionary is a list of pairs in wire
order with duplicates kept (R37). -/
inductive Payload where
  | device (pairs : List (Half × FunctionPoint))
  | modeA (groups : List (List (Half × TimedPoint)))
  | modeB (groups : List (List (Half × Value)))
deriving DecidableEq, Repr, Inhabited

/-- The result of `PARSE` (R36). -/
structure Response where
  version : Nat
  msgId : Option Word
  opcode : Byte
  operations : OpDesc
  code : Option Byte
  params : Payload
deriving DecidableEq, Repr, Inhabited

/-- How the parser treats the payload of a frame, chosen by its operation code (R69, R208, R220). -/
inductive Treatment where
  | deviceLevel (bare : Bool)
  | modeA (flatten : Bool)
  | modeB (count : Nat) (lastBare : Bool)
deriving DecidableEq, Repr, Inhabited

/-- The two function ids that are markers in mode A (R75). -/
inductive Marker where
  | newGroup | time
deriving DecidableEq, Repr, Inhabited

/-- The eight error kinds (R251); there are no others (spec/93_implementation_defined.md U7). -/
inductive ErrKind where
  | malformedFrame | integrityError | unknownDataType | valueOutOfRange | typeMismatch | arityError | jsonParseError
  | missingField
deriving DecidableEq, Repr, Inhabited

/-- The error record `ERR` (spec/10_state.md R25). -/
structure ErrRecord where
  valid : Bool
  kind : BitVec 4
  hasMsgId : Bool
  msgId : Word
  hasOp : Bool
  opcode : Byte
deriving DecidableEq, Repr, Inhabited

/-- The two correlation fields a fault of `PARSE` in steps 6 to 8 carries (spec/45_parser.md R210). -/
structure Correlation where
  msgId : Option Word
  opcode : Byte
deriving DecidableEq, Repr, Inhabited

/-- The result record a command leaves for the host, one constructor per shape of result (spec/00_scope.md R12);
`empty` is the record before any command. Results that are byte sequences go to `OBUF` instead (R29). -/
inductive Result where
  | empty
  | crc (code : Half)
  | decoded (v : Value) (consumed : Nat)
  | selected (t : Tag)
  | functionId (fid : Half)
  | fields (r : FidRecord)
  | opcode (c : Byte)
  | descriptor (d : OpDesc)
  | length (len : Nat) (size : Nat)
  | response (r : Response)
  | treatment (t : Treatment)
  | version (hasMsgId : Bool) (rawVersion : Nat)
  | marker (m : Marker)
deriving DecidableEq, Repr, Inhabited

/-- The operand ports: what the host hands over with a command, but for the bytes of `IBUF` (R11, R12). Each command reads
only the ports its rule names. -/
structure Operands where
  byte : Byte
  value : Value
  pos : Nat
  fid : Half
  dataType : BitVec 3
  functionType : BitVec 2
  resourceId : BitVec 11
  opDesc : OpDesc
  opcode : Byte
  len : Nat
  request : Request
  now : TimeStamp
deriving DecidableEq, Repr, Inhabited

end Sys2Proof
end

