-- ==== Sys2Proof/Config.lean ====
section
/-! DEFINITION. What an implementation fixes and what the spec leaves open. The four open parameters of spec/00_scope.md R9
are arguments: three are plain data (`Params`, which State carries as the host supplied it), the fourth, `IsValidJson`, is an
uninterpreted predicate. Every value the spec calls unspecified (spec/93_implementation_defined.md U8) is a free value: an
opaque constant applied to the state's counter of draws, so that nothing can be proved of it. -/

namespace Sys2Proof

/-- The parameter `DT_CODE`: the number of each data type (R9, R72). -/
structure DtCode where
  boolean : BitVec 3
  enum : BitVec 3
  integer : BitVec 3
  float : BitVec 3
  buffer : BitVec 3
  exception : BitVec 3
  string : BitVec 3
deriving DecidableEq, Repr, Inhabited

/-- The configuration parameters the host supplies before the first command (R9, R283): `DT_CODE`, `SYS_REGISTER_CODE`,
and `MAX_DEPTH`, where `none` is unbounded. -/
structure Params where
  dtCode : DtCode
  sysRegisterCode : BitVec 5
  maxDepth : Option Nat
deriving DecidableEq, Repr, Inhabited

/-- The parameter `IsValidJson`: a total predicate on byte sequences, uninterpreted (R9, decision D10). -/
opaque Config.isValidJson : Bytes → Bool

/-- `CRC` after a command that leaves it unspecified (spec/10_state.md R21). -/
opaque Config.freeCrc : Nat → Half

/-- `POS` where it is left unspecified: after a fault, and after `PARSE` (R22, spec/60_exceptions.md R264). -/
opaque Config.freePos : Nat → Nat

/-- `DEPTH` after a fault (R264). -/
opaque Config.freeDepth : Nat → Nat

/-- `STEP` after a fault, less one: it takes the values 1 to 9 only (R24, R264). -/
opaque Config.freeStep : Nat → Fin 9

/-- The fields of `ERR` a command leaves unspecified (R25). -/
opaque Config.freeErr : Nat → ErrRecord

/-- The bytes of `OBUF` after a fault (spec/93_implementation_defined.md U8). -/
opaque Config.freeBytes : Nat → Bytes

/-- The result record after a fault (U8). -/
opaque Config.freeResult : Nat → Result

end Sys2Proof
end

