-- ==== Sys2Proof/Syntax.lean ====
section
/-! DEFINITION. The syntax: one constructor of `Instr` for every row of spec/opcode_table.json, in the table's order. The
first thirty are the block's commands (spec/00_scope.md R12) and its two reserved command codes; the others are the
words of its data formats, each of which is the instruction "the unit that owns this format reads this word" (log entry 3).
Operands are the bits a row does not fix. -/

namespace Sys2Proof

/-- The ways a word can be presented to the block (R60): the command word, and the data formats; the four facets of a
function id are four ways of reading one 16-bit word, because their rows in the table overlap. -/
inductive Format where
  | cmdw | opc8 | opcset | fidDataType | fidFunctionType | fidResourceType | fidMarker | vlp | ver | errkind
deriving DecidableEq, Repr, Inhabited

/-- One constructor per row of spec/opcode_table.json. -/
inductive Instr where
  -- Command words (format CMDW, R61). Bits 6 to 3 are `CMD`, bits 2 to 0 `VT`; a command that ignores `VT` carries it.
  /-- `CRC.INIT` (R101). -/
  | crcInit (vt : BitVec 3)
  /-- `CRC.BYTE` (R102). -/
  | crcByte (vt : BitVec 3)
  /-- `CRC.BLOCK` (R104). -/
  | crcBlock (vt : BitVec 3)
  /-- `VAL.ENC.boolean` (R114). -/
  | valEncBoolean
  /-- `VAL.ENC.enum` (R115). -/
  | valEncEnum
  /-- `VAL.ENC.integer` (R116). -/
  | valEncInteger
  /-- `VAL.ENC.float` (R117). -/
  | valEncFloat
  /-- `VAL.ENC.buffer` (R119). -/
  | valEncBuffer
  /-- `VAL.ENC.exception` (R118). -/
  | valEncException
  /-- `VAL.ENC.string` (R120). -/
  | valEncString
  /-- `VAL.ENC.json` (R121). -/
  | valEncJson
  /-- `VAL.DEC.boolean` (R122). -/
  | valDecBoolean
  /-- `VAL.DEC.enum` (R123). -/
  | valDecEnum
  /-- `VAL.DEC.integer` (R124). -/
  | valDecInteger
  /-- `VAL.DEC.float` (R125). -/
  | valDecFloat
  /-- `VAL.DEC.buffer` (R127). -/
  | valDecBuffer
  /-- `VAL.DEC.exception` (R126). -/
  | valDecException
  /-- `VAL.DEC.string` (R128). -/
  | valDecString
  /-- `VAL.DEC.json` (R129). -/
  | valDecJson
  /-- `VAL.SEL` (R113). -/
  | valSel (vt : BitVec 3)
  /-- `FID.ENC` (R140). -/
  | fidEnc (vt : BitVec 3)
  /-- `FID.DEC` (R141). -/
  | fidDec (vt : BitVec 3)
  /-- `OPC.ENC` (R145). -/
  | opcEnc (vt : BitVec 3)
  /-- `OPC.DEC` (R148). -/
  | opcDec (vt : BitVec 3)
  /-- `VLP.ENC` (R160). -/
  | vlpEnc (vt : BitVec 3)
  /-- `VLP.DEC` (R162). -/
  | vlpDec (vt : BitVec 3)
  /-- `PKG` (R172). -/
  | pkg (vt : BitVec 3)
  /-- `PARSE` (R200). -/
  | parse (vt : BitVec 3)
  /-- `CMD.RESERVED.E` (R81). -/
  | cmdReservedE (vt : BitVec 3)
  /-- `CMD.RESERVED.F` (R81). -/
  | cmdReservedF (vt : BitVec 3)
  -- Operation codes (format OPC8, R66 to R68): bits 7 and 6 are operands, target and method code are the row.
  /-- `OPC8.resource.00.notify.default` (R149). -/
  | opc8Resource00NotifyDefault (operation : BitVec 1) (type : BitVec 1)
  /-- `OPC8.resource.01.read` (R67). -/
  | opc8Resource01Read (operation : BitVec 1) (type : BitVec 1)
  /-- `OPC8.resource.02.write` (R67). -/
  | opc8Resource02Write (operation : BitVec 1) (type : BitVec 1)
  /-- `OPC8.resource.03.notify` (R67). -/
  | opc8Resource03Notify (operation : BitVec 1) (type : BitVec 1)
  /-- `OPC8.resource.04.notify.default` (R149). -/
  | opc8Resource04NotifyDefault (operation : BitVec 1) (type : BitVec 1)
  /-- `OPC8.resource.05.notify.default` (R149). -/
  | opc8Resource05NotifyDefault (operation : BitVec 1) (type : BitVec 1)
  /-- `OPC8.resource.06.notify.default` (R149). -/
  | opc8Resource06NotifyDefault (operation : BitVec 1) (type : BitVec 1)
  /-- `OPC8.resource.07.notify.default` (R149). -/
  | opc8Resource07NotifyDefault (operation : BitVec 1) (type : BitVec 1)
  /-- `OPC8.resource.08.notify.default` (R149). -/
  | opc8Resource08NotifyDefault (operation : BitVec 1) (type : BitVec 1)
  /-- `OPC8.resource.09.notify.default` (R149). -/
  | opc8Resource09NotifyDefault (operation : BitVec 1) (type : BitVec 1)
  /-- `OPC8.resource.0A.notify.default` (R149). -/
  | opc8Resource0aNotifyDefault (operation : BitVec 1) (type : BitVec 1)
  /-- `OPC8.resource.0B.notify.default` (R149). -/
  | opc8Resource0bNotifyDefault (operation : BitVec 1) (type : BitVec 1)
  /-- `OPC8.resource.0C.notify.default` (R149). -/
  | opc8Resource0cNotifyDefault (operation : BitVec 1) (type : BitVec 1)
  /-- `OPC8.resource.0D.notify.default` (R149). -/
  | opc8Resource0dNotifyDefault (operation : BitVec 1) (type : BitVec 1)
  /-- `OPC8.resource.0E.notify.default` (R149). -/
  | opc8Resource0eNotifyDefault (operation : BitVec 1) (type : BitVec 1)
  /-- `OPC8.resource.0F.notify.default` (R149). -/
  | opc8Resource0fNotifyDefault (operation : BitVec 1) (type : BitVec 1)
  /-- `OPC8.resource.10.notify.default` (R149). -/
  | opc8Resource10NotifyDefault (operation : BitVec 1) (type : BitVec 1)
  /-- `OPC8.resource.11.notify.default` (R149). -/
  | opc8Resource11NotifyDefault (operation : BitVec 1) (type : BitVec 1)
  /-- `OPC8.resource.12.notify.default` (R149). -/
  | opc8Resource12NotifyDefault (operation : BitVec 1) (type : BitVec 1)
  /-- `OPC8.resource.13.notify.default` (R149). -/
  | opc8Resource13NotifyDefault (operation : BitVec 1) (type : BitVec 1)
  /-- `OPC8.resource.14.notify.default` (R149). -/
  | opc8Resource14NotifyDefault (operation : BitVec 1) (type : BitVec 1)
  /-- `OPC8.resource.15.notify.default` (R149). -/
  | opc8Resource15NotifyDefault (operation : BitVec 1) (type : BitVec 1)
  /-- `OPC8.resource.16.notify.default` (R149). -/
  | opc8Resource16NotifyDefault (operation : BitVec 1) (type : BitVec 1)
  /-- `OPC8.resource.17.notify.default` (R149). -/
  | opc8Resource17NotifyDefault (operation : BitVec 1) (type : BitVec 1)
  /-- `OPC8.resource.18.notify.default` (R149). -/
  | opc8Resource18NotifyDefault (operation : BitVec 1) (type : BitVec 1)
  /-- `OPC8.resource.19.notify.default` (R149). -/
  | opc8Resource19NotifyDefault (operation : BitVec 1) (type : BitVec 1)
  /-- `OPC8.resource.1A.notify.default` (R149). -/
  | opc8Resource1aNotifyDefault (operation : BitVec 1) (type : BitVec 1)
  /-- `OPC8.resource.1B.notify.default` (R149). -/
  | opc8Resource1bNotifyDefault (operation : BitVec 1) (type : BitVec 1)
  /-- `OPC8.resource.1C.notify.default` (R149). -/
  | opc8Resource1cNotifyDefault (operation : BitVec 1) (type : BitVec 1)
  /-- `OPC8.resource.1D.notify.default` (R149). -/
  | opc8Resource1dNotifyDefault (operation : BitVec 1) (type : BitVec 1)
  /-- `OPC8.resource.1E.notify.default` (R149). -/
  | opc8Resource1eNotifyDefault (operation : BitVec 1) (type : BitVec 1)
  /-- `OPC8.resource.1F.notify.default` (R149). -/
  | opc8Resource1fNotifyDefault (operation : BitVec 1) (type : BitVec 1)
  /-- `OPC8.system.00.reset` (R68). -/
  | opc8System00Reset (operation : BitVec 1) (type : BitVec 1)
  /-- `OPC8.system.01.recovery` (R68). -/
  | opc8System01Recovery (operation : BitVec 1) (type : BitVec 1)
  /-- `OPC8.system.02.register.default` (R149). -/
  | opc8System02RegisterDefault (operation : BitVec 1) (type : BitVec 1)
  /-- `OPC8.system.03.deregister` (R68). -/
  | opc8System03Deregister (operation : BitVec 1) (type : BitVec 1)
  /-- `OPC8.system.04.enable` (R68). -/
  | opc8System04Enable (operation : BitVec 1) (type : BitVec 1)
  /-- `OPC8.system.05.disable` (R68). -/
  | opc8System05Disable (operation : BitVec 1) (type : BitVec 1)
  /-- `OPC8.system.06.label` (R68). -/
  | opc8System06Label (operation : BitVec 1) (type : BitVec 1)
  /-- `OPC8.system.07.upgrade` (R68). -/
  | opc8System07Upgrade (operation : BitVec 1) (type : BitVec 1)
  /-- `OPC8.system.08.register.default` (R149). -/
  | opc8System08RegisterDefault (operation : BitVec 1) (type : BitVec 1)
  /-- `OPC8.system.09.register.default` (R149). -/
  | opc8System09RegisterDefault (operation : BitVec 1) (type : BitVec 1)
  /-- `OPC8.system.0A.register.default` (R149). -/
  | opc8System0aRegisterDefault (operation : BitVec 1) (type : BitVec 1)
  /-- `OPC8.system.0B.register.default` (R149). -/
  | opc8System0bRegisterDefault (operation : BitVec 1) (type : BitVec 1)
  /-- `OPC8.system.0C.register.default` (R149). -/
  | opc8System0cRegisterDefault (operation : BitVec 1) (type : BitVec 1)
  /-- `OPC8.system.0D.register.default` (R149). -/
  | opc8System0dRegisterDefault (operation : BitVec 1) (type : BitVec 1)
  /-- `OPC8.system.0E.register.default` (R149). -/
  | opc8System0eRegisterDefault (operation : BitVec 1) (type : BitVec 1)
  /-- `OPC8.system.0F.register.default` (R149). -/
  | opc8System0fRegisterDefault (operation : BitVec 1) (type : BitVec 1)
  /-- `OPC8.system.10.register.default` (R149). -/
  | opc8System10RegisterDefault (operation : BitVec 1) (type : BitVec 1)
  /-- `OPC8.system.11.register.default` (R149). -/
  | opc8System11RegisterDefault (operation : BitVec 1) (type : BitVec 1)
  /-- `OPC8.system.12.register.default` (R149). -/
  | opc8System12RegisterDefault (operation : BitVec 1) (type : BitVec 1)
  /-- `OPC8.system.13.register.default` (R149). -/
  | opc8System13RegisterDefault (operation : BitVec 1) (type : BitVec 1)
  /-- `OPC8.system.14.register.default` (R149). -/
  | opc8System14RegisterDefault (operation : BitVec 1) (type : BitVec 1)
  /-- `OPC8.system.15.register.default` (R149). -/
  | opc8System15RegisterDefault (operation : BitVec 1) (type : BitVec 1)
  /-- `OPC8.system.16.register.default` (R149). -/
  | opc8System16RegisterDefault (operation : BitVec 1) (type : BitVec 1)
  /-- `OPC8.system.17.register.default` (R149). -/
  | opc8System17RegisterDefault (operation : BitVec 1) (type : BitVec 1)
  /-- `OPC8.system.18.register.default` (R149). -/
  | opc8System18RegisterDefault (operation : BitVec 1) (type : BitVec 1)
  /-- `OPC8.system.19.register.default` (R149). -/
  | opc8System19RegisterDefault (operation : BitVec 1) (type : BitVec 1)
  /-- `OPC8.system.1A.register.default` (R149). -/
  | opc8System1aRegisterDefault (operation : BitVec 1) (type : BitVec 1)
  /-- `OPC8.system.1B.register.default` (R149). -/
  | opc8System1bRegisterDefault (operation : BitVec 1) (type : BitVec 1)
  /-- `OPC8.system.1C.register.default` (R149). -/
  | opc8System1cRegisterDefault (operation : BitVec 1) (type : BitVec 1)
  /-- `OPC8.system.1D.deleteTopology` (R68). -/
  | opc8System1dDeleteTopology (operation : BitVec 1) (type : BitVec 1)
  /-- `OPC8.system.1E.offline` (R68). -/
  | opc8System1eOffline (operation : BitVec 1) (type : BitVec 1)
  /-- `OPC8.system.1F.online` (R68). -/
  | opc8System1fOnline (operation : BitVec 1) (type : BitVec 1)
  -- Operation codes the parser tests as whole bytes (format OPCSET, R69).
  /-- `OPCSET.BARE_READ.01` (R215). -/
  | opcsetBareReadCode01
  /-- `OPCSET.MODEB_N2.7F` (R225). -/
  | opcsetModebN2Code7f
  /-- `OPCSET.MODEB_N2.7E` (R225). -/
  | opcsetModebN2Code7e
  /-- `OPCSET.MODEB_N2.64` (R225). -/
  | opcsetModebN2Code64
  /-- `OPCSET.MODEB_N2.65` (R225). -/
  | opcsetModebN2Code65
  /-- `OPCSET.MODEB_N3.62` (R225). -/
  | opcsetModebN3Code62
  /-- `OPCSET.MODEB_N3.63` (R225). -/
  | opcsetModebN3Code63
  /-- `OPCSET.MODEB_N3_LASTBARE.41` (R227). -/
  | opcsetModebN3LastbareCode41
  /-- `OPCSET.MODEB_N3_LASTBARE.C2` (R227). -/
  | opcsetModebN3LastbareCodec2
  /-- `OPCSET.MODEA_FLATTEN.43` (R230). -/
  | opcsetModeaFlattenCode43
  /-- `OPCSET.MODEA_FLATTEN.C1` (R230). -/
  | opcsetModeaFlattenCodec1
  /-- `OPCSET.MODEA.default` (R220). -/
  | opcsetModeaDefault (operation : BitVec 1) (low : BitVec 6)
  /-- `OPCSET.DEVICE.default` (R216). -/
  | opcsetDeviceDefault (operation : BitVec 1) (low : BitVec 6)
  -- Function ids by data type (format FID16, R72).
  /-- `FID16.dataType.0.reserved` (R141). -/
  | fid16DataType0Reserved (functionType : BitVec 2) (resourceId : BitVec 11)
  /-- `FID16.dataType.1.boolean` (R72). -/
  | fid16DataType1Boolean (functionType : BitVec 2) (resourceId : BitVec 11)
  /-- `FID16.dataType.2.enum` (R72). -/
  | fid16DataType2Enum (functionType : BitVec 2) (resourceId : BitVec 11)
  /-- `FID16.dataType.3.integer` (R72). -/
  | fid16DataType3Integer (functionType : BitVec 2) (resourceId : BitVec 11)
  /-- `FID16.dataType.4.float` (R72). -/
  | fid16DataType4Float (functionType : BitVec 2) (resourceId : BitVec 11)
  /-- `FID16.dataType.5.buffer` (R72). -/
  | fid16DataType5Buffer (functionType : BitVec 2) (resourceId : BitVec 11)
  /-- `FID16.dataType.6.exception` (R72). -/
  | fid16DataType6Exception (functionType : BitVec 2) (resourceId : BitVec 11)
  /-- `FID16.dataType.7.string` (R72). -/
  | fid16DataType7String (functionType : BitVec 2) (resourceId : BitVec 11)
  -- Function ids by function type (format FID16, R73).
  /-- `FID16.functionType.0.reserve` (R73). -/
  | fid16FunctionType0Reserve (dataType : BitVec 3) (resourceId : BitVec 11)
  /-- `FID16.functionType.1.custom` (R73). -/
  | fid16FunctionType1Custom (dataType : BitVec 3) (resourceId : BitVec 11)
  /-- `FID16.functionType.2.property` (R73). -/
  | fid16FunctionType2Property (dataType : BitVec 3) (resourceId : BitVec 11)
  /-- `FID16.functionType.3.event` (R73). -/
  | fid16FunctionType3Event (dataType : BitVec 3) (resourceId : BitVec 11)
  -- Function ids by resource id range (format FID16, R74, R142).
  /-- `FID16.resourceType.common.000-3FF` (R142). -/
  | fid16ResourceTypeCommon000To3ff (dataType : BitVec 3) (functionType : BitVec 2) (low : BitVec 10)
  /-- `FID16.resourceType.common.400-4FF` (R142). -/
  | fid16ResourceTypeCommon400To4ff (dataType : BitVec 3) (functionType : BitVec 2) (low : BitVec 8)
  /-- `FID16.resourceType.combine.500-5FF` (R142). -/
  | fid16ResourceTypeCombine500To5ff (dataType : BitVec 3) (functionType : BitVec 2) (low : BitVec 8)
  /-- `FID16.resourceType.combine.600-6FF` (R142). -/
  | fid16ResourceTypeCombine600To6ff (dataType : BitVec 3) (functionType : BitVec 2) (low : BitVec 8)
  /-- `FID16.resourceType.static.700-7FF` (R142). -/
  | fid16ResourceTypeStatic700To7ff (dataType : BitVec 3) (functionType : BitVec 2) (low : BitVec 8)
  -- The two marker function ids (format FID16, R75).
  /-- `FID16.marker.E801.newGroup` (R223). -/
  | fid16MarkerE801NewGroup
  /-- `FID16.marker.E803.time` (R222). -/
  | fid16MarkerE803Time
  -- Length prefixes by class (format VLP, R77); `len` is the prefix without its two class bits.
  /-- `VLP.class1` (R162). -/
  | vlpClass1 (len : BitVec 6)
  /-- `VLP.class2` (R162). -/
  | vlpClass2 (len : BitVec 14)
  /-- `VLP.class3` (R162). -/
  | vlpClass3 (len : BitVec 22)
  /-- `VLP.class4` (R162). -/
  | vlpClass4 (len : BitVec 30)
  -- First bytes of a frame (format VER, R64).
  /-- `VER.illegal.00` (R201). -/
  | verIllegal00
  /-- `VER.illegal.80` (R201). -/
  | verIllegal80
  /-- `VER.noMsgId` (R202). -/
  | verNoMsgId (rawVersion : BitVec 7)
  /-- `VER.withMsgId` (R202). -/
  | verWithMsgId (rawVersion : BitVec 7)
  -- Error kind codes (format ERRKIND, R251).
  /-- `ERRKIND.1.MalformedFrame` (R252). -/
  | errkind1MalformedFrame
  /-- `ERRKIND.2.IntegrityError` (R253). -/
  | errkind2IntegrityError
  /-- `ERRKIND.3.UnknownDataType` (R254). -/
  | errkind3UnknownDataType
  /-- `ERRKIND.4.ValueOutOfRange` (R255). -/
  | errkind4ValueOutOfRange
  /-- `ERRKIND.5.TypeMismatch` (R256). -/
  | errkind5TypeMismatch
  /-- `ERRKIND.6.ArityError` (R257). -/
  | errkind6ArityError
  /-- `ERRKIND.7.JsonParseError` (R258). -/
  | errkind7JsonParseError
  /-- `ERRKIND.8.MissingField` (R259). -/
  | errkind8MissingField
deriving DecidableEq, Repr, Inhabited

/-- The format a constructor's word is read in. -/
def Instr.format : Instr → Format
  | .crcInit _ => .cmdw
  | .crcByte _ => .cmdw
  | .crcBlock _ => .cmdw
  | .valEncBoolean => .cmdw
  | .valEncEnum => .cmdw
  | .valEncInteger => .cmdw
  | .valEncFloat => .cmdw
  | .valEncBuffer => .cmdw
  | .valEncException => .cmdw
  | .valEncString => .cmdw
  | .valEncJson => .cmdw
  | .valDecBoolean => .cmdw
  | .valDecEnum => .cmdw
  | .valDecInteger => .cmdw
  | .valDecFloat => .cmdw
  | .valDecBuffer => .cmdw
  | .valDecException => .cmdw
  | .valDecString => .cmdw
  | .valDecJson => .cmdw
  | .valSel _ => .cmdw
  | .fidEnc _ => .cmdw
  | .fidDec _ => .cmdw
  | .opcEnc _ => .cmdw
  | .opcDec _ => .cmdw
  | .vlpEnc _ => .cmdw
  | .vlpDec _ => .cmdw
  | .pkg _ => .cmdw
  | .parse _ => .cmdw
  | .cmdReservedE _ => .cmdw
  | .cmdReservedF _ => .cmdw
  | .opc8Resource00NotifyDefault _ _ => .opc8
  | .opc8Resource01Read _ _ => .opc8
  | .opc8Resource02Write _ _ => .opc8
  | .opc8Resource03Notify _ _ => .opc8
  | .opc8Resource04NotifyDefault _ _ => .opc8
  | .opc8Resource05NotifyDefault _ _ => .opc8
  | .opc8Resource06NotifyDefault _ _ => .opc8
  | .opc8Resource07NotifyDefault _ _ => .opc8
  | .opc8Resource08NotifyDefault _ _ => .opc8
  | .opc8Resource09NotifyDefault _ _ => .opc8
  | .opc8Resource0aNotifyDefault _ _ => .opc8
  | .opc8Resource0bNotifyDefault _ _ => .opc8
  | .opc8Resource0cNotifyDefault _ _ => .opc8
  | .opc8Resource0dNotifyDefault _ _ => .opc8
  | .opc8Resource0eNotifyDefault _ _ => .opc8
  | .opc8Resource0fNotifyDefault _ _ => .opc8
  | .opc8Resource10NotifyDefault _ _ => .opc8
  | .opc8Resource11NotifyDefault _ _ => .opc8
  | .opc8Resource12NotifyDefault _ _ => .opc8
  | .opc8Resource13NotifyDefault _ _ => .opc8
  | .opc8Resource14NotifyDefault _ _ => .opc8
  | .opc8Resource15NotifyDefault _ _ => .opc8
  | .opc8Resource16NotifyDefault _ _ => .opc8
  | .opc8Resource17NotifyDefault _ _ => .opc8
  | .opc8Resource18NotifyDefault _ _ => .opc8
  | .opc8Resource19NotifyDefault _ _ => .opc8
  | .opc8Resource1aNotifyDefault _ _ => .opc8
  | .opc8Resource1bNotifyDefault _ _ => .opc8
  | .opc8Resource1cNotifyDefault _ _ => .opc8
  | .opc8Resource1dNotifyDefault _ _ => .opc8
  | .opc8Resource1eNotifyDefault _ _ => .opc8
  | .opc8Resource1fNotifyDefault _ _ => .opc8
  | .opc8System00Reset _ _ => .opc8
  | .opc8System01Recovery _ _ => .opc8
  | .opc8System02RegisterDefault _ _ => .opc8
  | .opc8System03Deregister _ _ => .opc8
  | .opc8System04Enable _ _ => .opc8
  | .opc8System05Disable _ _ => .opc8
  | .opc8System06Label _ _ => .opc8
  | .opc8System07Upgrade _ _ => .opc8
  | .opc8System08RegisterDefault _ _ => .opc8
  | .opc8System09RegisterDefault _ _ => .opc8
  | .opc8System0aRegisterDefault _ _ => .opc8
  | .opc8System0bRegisterDefault _ _ => .opc8
  | .opc8System0cRegisterDefault _ _ => .opc8
  | .opc8System0dRegisterDefault _ _ => .opc8
  | .opc8System0eRegisterDefault _ _ => .opc8
  | .opc8System0fRegisterDefault _ _ => .opc8
  | .opc8System10RegisterDefault _ _ => .opc8
  | .opc8System11RegisterDefault _ _ => .opc8
  | .opc8System12RegisterDefault _ _ => .opc8
  | .opc8System13RegisterDefault _ _ => .opc8
  | .opc8System14RegisterDefault _ _ => .opc8
  | .opc8System15RegisterDefault _ _ => .opc8
  | .opc8System16RegisterDefault _ _ => .opc8
  | .opc8System17RegisterDefault _ _ => .opc8
  | .opc8System18RegisterDefault _ _ => .opc8
  | .opc8System19RegisterDefault _ _ => .opc8
  | .opc8System1aRegisterDefault _ _ => .opc8
  | .opc8System1bRegisterDefault _ _ => .opc8
  | .opc8System1cRegisterDefault _ _ => .opc8
  | .opc8System1dDeleteTopology _ _ => .opc8
  | .opc8System1eOffline _ _ => .opc8
  | .opc8System1fOnline _ _ => .opc8
  | .opcsetBareReadCode01 => .opcset
  | .opcsetModebN2Code7f => .opcset
  | .opcsetModebN2Code7e => .opcset
  | .opcsetModebN2Code64 => .opcset
  | .opcsetModebN2Code65 => .opcset
  | .opcsetModebN3Code62 => .opcset
  | .opcsetModebN3Code63 => .opcset
  | .opcsetModebN3LastbareCode41 => .opcset
  | .opcsetModebN3LastbareCodec2 => .opcset
  | .opcsetModeaFlattenCode43 => .opcset
  | .opcsetModeaFlattenCodec1 => .opcset
  | .opcsetModeaDefault _ _ => .opcset
  | .opcsetDeviceDefault _ _ => .opcset
  | .fid16DataType0Reserved _ _ => .fidDataType
  | .fid16DataType1Boolean _ _ => .fidDataType
  | .fid16DataType2Enum _ _ => .fidDataType
  | .fid16DataType3Integer _ _ => .fidDataType
  | .fid16DataType4Float _ _ => .fidDataType
  | .fid16DataType5Buffer _ _ => .fidDataType
  | .fid16DataType6Exception _ _ => .fidDataType
  | .fid16DataType7String _ _ => .fidDataType
  | .fid16FunctionType0Reserve _ _ => .fidFunctionType
  | .fid16FunctionType1Custom _ _ => .fidFunctionType
  | .fid16FunctionType2Property _ _ => .fidFunctionType
  | .fid16FunctionType3Event _ _ => .fidFunctionType
  | .fid16ResourceTypeCommon000To3ff _ _ _ => .fidResourceType
  | .fid16ResourceTypeCommon400To4ff _ _ _ => .fidResourceType
  | .fid16ResourceTypeCombine500To5ff _ _ _ => .fidResourceType
  | .fid16ResourceTypeCombine600To6ff _ _ _ => .fidResourceType
  | .fid16ResourceTypeStatic700To7ff _ _ _ => .fidResourceType
  | .fid16MarkerE801NewGroup => .fidMarker
  | .fid16MarkerE803Time => .fidMarker
  | .vlpClass1 _ => .vlp
  | .vlpClass2 _ => .vlp
  | .vlpClass3 _ => .vlp
  | .vlpClass4 _ => .vlp
  | .verIllegal00 => .ver
  | .verIllegal80 => .ver
  | .verNoMsgId _ => .ver
  | .verWithMsgId _ => .ver
  | .errkind1MalformedFrame => .errkind
  | .errkind2IntegrityError => .errkind
  | .errkind3UnknownDataType => .errkind
  | .errkind4ValueOutOfRange => .errkind
  | .errkind5TypeMismatch => .errkind
  | .errkind6ArityError => .errkind
  | .errkind7JsonParseError => .errkind
  | .errkind8MissingField => .errkind

end Sys2Proof
end

