-- ==== Sys2Proof/WellFormed.lean ====
section
/-! DEFINITION. Which terms of `Instr` stand for a word. Field widths are in the types; what is left is that a default row
does not hold a word that a row before it names (spec/30_encoding.md R60: the first matching row of a format is taken). -/

namespace Sys2Proof

/-- The sub-device operation codes that have a row of their own before the mode A default row (R69). -/
def namedSubDeviceCodes : List Byte := [0x7F, 0x7E, 0x64, 0x65, 0x62, 0x63, 0x41, 0xC2, 0x43, 0xC1]

/-- A term that its format's rows give to this constructor: the first byte of a frame is neither 0x00 nor 0x80 where it
carries a version (R64), and a default row of the parser's treatments holds no code that is listed by value (R69). -/
def Instr.wellFormed : Instr → Bool
  | .opcsetModeaDefault operation low => (operation ++ 1#1 ++ low : Byte) ∉ namedSubDeviceCodes
  | .opcsetDeviceDefault operation low => (operation ++ 0#1 ++ low : Byte) ≠ 0x01
  | .verNoMsgId rawVersion => rawVersion ≠ 0
  | .verWithMsgId rawVersion => rawVersion ≠ 0
  | _ => true

end Sys2Proof
end

