-- ==== Sys2Proof/Decode.lean ====
section
/-! DEFINITION. The decoder from bytes to `Instr`, total on any bytes and rejecting by name, and after it the encoder, both
written from spec/30_encoding.md. A word is a byte sequence: one byte for a command word, an operation code, a first byte
or an error kind, two bytes big-endian for a function id, one to four for a length prefix. Last come the two functions the
host asks for: what the decoder reads from a table word, and which format a bare table word is presented in. -/

namespace Sys2Proof

/-- Why a byte sequence is no word of the format it is presented in. -/
inductive DecodeError where
  /-- The format's words have another number of bytes (R60); for a prefix, another than its class says (R78). -/
  | wrongSize
  /-- Bit 7 is set: a command word has seven bits (R61). -/
  | notACommandWord
  /-- The function id is neither 0xE801 nor 0xE803 (R75). -/
  | notAMarker
  /-- The code is not one of the eight error kinds (R251). -/
  | notAnErrorKind
deriving DecidableEq, Repr, Inhabited

/-- The `VAL.ENC` command of a transcoder code (R61, R62). -/
def decodeValEnc (vt : BitVec 3) : Instr :=
  match vt.toNat with
  | 0 => .valEncBoolean
  | 1 => .valEncEnum
  | 2 => .valEncInteger
  | 3 => .valEncFloat
  | 4 => .valEncBuffer
  | 5 => .valEncException
  | 6 => .valEncString
  | _ => .valEncJson

/-- The `VAL.DEC` command of a transcoder code (R61, R62). -/
def decodeValDec (vt : BitVec 3) : Instr :=
  match vt.toNat with
  | 0 => .valDecBoolean
  | 1 => .valDecEnum
  | 2 => .valDecInteger
  | 3 => .valDecFloat
  | 4 => .valDecBuffer
  | 5 => .valDecException
  | 6 => .valDecString
  | _ => .valDecJson

/-- The command word (R61): `CMD` in bits 6 to 3, `VT` in bits 2 to 0; a set bit 7 is no command word. -/
def decodeCommand (b : Byte) : Except DecodeError Instr :=
  let vt := b.extractLsb' 0 3
  match (b.extractLsb' 3 5).toNat with
  | 0 => .ok (.crcInit vt)
  | 1 => .ok (.crcByte vt)
  | 2 => .ok (.crcBlock vt)
  | 3 => .ok (decodeValEnc vt)
  | 4 => .ok (decodeValDec vt)
  | 5 => .ok (.valSel vt)
  | 6 => .ok (.fidEnc vt)
  | 7 => .ok (.fidDec vt)
  | 8 => .ok (.opcEnc vt)
  | 9 => .ok (.opcDec vt)
  | 10 => .ok (.vlpEnc vt)
  | 11 => .ok (.vlpDec vt)
  | 12 => .ok (.pkg vt)
  | 13 => .ok (.parse vt)
  | 14 => .ok (.cmdReservedE vt)
  | 15 => .ok (.cmdReservedF vt)
  | _ => .error .notACommandWord

/-- An operation code by target and method code (R66 to R68): bit 7 is `operation`, bit 6 `type`, and bits 5 to 0 choose
the row. -/
def decodeOperationCode (b : Byte) : Instr :=
  let operation := b.extractLsb' 7 1
  let type := b.extractLsb' 6 1
  match (b.extractLsb' 0 6).toNat with
  | 0 => .opc8Resource00NotifyDefault operation type
  | 1 => .opc8Resource01Read operation type
  | 2 => .opc8Resource02Write operation type
  | 3 => .opc8Resource03Notify operation type
  | 4 => .opc8Resource04NotifyDefault operation type
  | 5 => .opc8Resource05NotifyDefault operation type
  | 6 => .opc8Resource06NotifyDefault operation type
  | 7 => .opc8Resource07NotifyDefault operation type
  | 8 => .opc8Resource08NotifyDefault operation type
  | 9 => .opc8Resource09NotifyDefault operation type
  | 10 => .opc8Resource0aNotifyDefault operation type
  | 11 => .opc8Resource0bNotifyDefault operation type
  | 12 => .opc8Resource0cNotifyDefault operation type
  | 13 => .opc8Resource0dNotifyDefault operation type
  | 14 => .opc8Resource0eNotifyDefault operation type
  | 15 => .opc8Resource0fNotifyDefault operation type
  | 16 => .opc8Resource10NotifyDefault operation type
  | 17 => .opc8Resource11NotifyDefault operation type
  | 18 => .opc8Resource12NotifyDefault operation type
  | 19 => .opc8Resource13NotifyDefault operation type
  | 20 => .opc8Resource14NotifyDefault operation type
  | 21 => .opc8Resource15NotifyDefault operation type
  | 22 => .opc8Resource16NotifyDefault operation type
  | 23 => .opc8Resource17NotifyDefault operation type
  | 24 => .opc8Resource18NotifyDefault operation type
  | 25 => .opc8Resource19NotifyDefault operation type
  | 26 => .opc8Resource1aNotifyDefault operation type
  | 27 => .opc8Resource1bNotifyDefault operation type
  | 28 => .opc8Resource1cNotifyDefault operation type
  | 29 => .opc8Resource1dNotifyDefault operation type
  | 30 => .opc8Resource1eNotifyDefault operation type
  | 31 => .opc8Resource1fNotifyDefault operation type
  | 32 => .opc8System00Reset operation type
  | 33 => .opc8System01Recovery operation type
  | 34 => .opc8System02RegisterDefault operation type
  | 35 => .opc8System03Deregister operation type
  | 36 => .opc8System04Enable operation type
  | 37 => .opc8System05Disable operation type
  | 38 => .opc8System06Label operation type
  | 39 => .opc8System07Upgrade operation type
  | 40 => .opc8System08RegisterDefault operation type
  | 41 => .opc8System09RegisterDefault operation type
  | 42 => .opc8System0aRegisterDefault operation type
  | 43 => .opc8System0bRegisterDefault operation type
  | 44 => .opc8System0cRegisterDefault operation type
  | 45 => .opc8System0dRegisterDefault operation type
  | 46 => .opc8System0eRegisterDefault operation type
  | 47 => .opc8System0fRegisterDefault operation type
  | 48 => .opc8System10RegisterDefault operation type
  | 49 => .opc8System11RegisterDefault operation type
  | 50 => .opc8System12RegisterDefault operation type
  | 51 => .opc8System13RegisterDefault operation type
  | 52 => .opc8System14RegisterDefault operation type
  | 53 => .opc8System15RegisterDefault operation type
  | 54 => .opc8System16RegisterDefault operation type
  | 55 => .opc8System17RegisterDefault operation type
  | 56 => .opc8System18RegisterDefault operation type
  | 57 => .opc8System19RegisterDefault operation type
  | 58 => .opc8System1aRegisterDefault operation type
  | 59 => .opc8System1bRegisterDefault operation type
  | 60 => .opc8System1cRegisterDefault operation type
  | 61 => .opc8System1dDeleteTopology operation type
  | 62 => .opc8System1eOffline operation type
  | _ => .opc8System1fOnline operation type

/-- An operation code by the parser's treatment (R69): the exact bytes first, then the two default rows on bit 6. -/
def decodeTreatment (b : Byte) : Instr :=
  match b.toNat with
  | 0x01 => .opcsetBareReadCode01
  | 0x7F => .opcsetModebN2Code7f
  | 0x7E => .opcsetModebN2Code7e
  | 0x64 => .opcsetModebN2Code64
  | 0x65 => .opcsetModebN2Code65
  | 0x62 => .opcsetModebN3Code62
  | 0x63 => .opcsetModebN3Code63
  | 0x41 => .opcsetModebN3LastbareCode41
  | 0xC2 => .opcsetModebN3LastbareCodec2
  | 0x43 => .opcsetModeaFlattenCode43
  | 0xC1 => .opcsetModeaFlattenCodec1
  | _ =>
    if b.extractLsb' 6 1 = 1#1 then .opcsetModeaDefault (b.extractLsb' 7 1) (b.extractLsb' 0 6)
    else .opcsetDeviceDefault (b.extractLsb' 7 1) (b.extractLsb' 0 6)

/-- A function id by its data type, bits 15 to 13 (R71, R72). -/
def decodeFidDataType (w : Half) : Instr :=
  let functionType := w.extractLsb' 11 2
  let resourceId := w.extractLsb' 0 11
  match (w.extractLsb' 13 3).toNat with
  | 0 => .fid16DataType0Reserved functionType resourceId
  | 1 => .fid16DataType1Boolean functionType resourceId
  | 2 => .fid16DataType2Enum functionType resourceId
  | 3 => .fid16DataType3Integer functionType resourceId
  | 4 => .fid16DataType4Float functionType resourceId
  | 5 => .fid16DataType5Buffer functionType resourceId
  | 6 => .fid16DataType6Exception functionType resourceId
  | _ => .fid16DataType7String functionType resourceId

/-- A function id by its function type, bits 12 and 11 (R71, R73). -/
def decodeFidFunctionType (w : Half) : Instr :=
  let dataType := w.extractLsb' 13 3
  let resourceId := w.extractLsb' 0 11
  match (w.extractLsb' 11 2).toNat with
  | 0 => .fid16FunctionType0Reserve dataType resourceId
  | 1 => .fid16FunctionType1Custom dataType resourceId
  | 2 => .fid16FunctionType2Property dataType resourceId
  | _ => .fid16FunctionType3Event dataType resourceId

/-- A function id by the range of its resource id (R74): bits 10 to 8 choose the row. -/
def decodeFidResourceType (w : Half) : Instr :=
  let dataType := w.extractLsb' 13 3
  let functionType := w.extractLsb' 11 2
  match (w.extractLsb' 8 3).toNat with
  | 4 => .fid16ResourceTypeCommon400To4ff dataType functionType (w.extractLsb' 0 8)
  | 5 => .fid16ResourceTypeCombine500To5ff dataType functionType (w.extractLsb' 0 8)
  | 6 => .fid16ResourceTypeCombine600To6ff dataType functionType (w.extractLsb' 0 8)
  | 7 => .fid16ResourceTypeStatic700To7ff dataType functionType (w.extractLsb' 0 8)
  | _ => .fid16ResourceTypeCommon000To3ff dataType functionType (w.extractLsb' 0 10)

/-- The two marker ids, matched on all 16 bits (R75). -/
def decodeFidMarker (w : Half) : Except DecodeError Instr :=
  match w.toNat with
  | 0xE801 => .ok .fid16MarkerE801NewGroup
  | 0xE803 => .ok .fid16MarkerE803Time
  | _ => .error .notAMarker

/-- A length prefix (R77): the class in the two high bits of the first byte says how many bytes it has, and the other
bits of those bytes, big-endian, are the length. -/
def decodePrefix (bs : Bytes) : Except DecodeError Instr :=
  match bs with
  | [b0] => if b0.extractLsb' 6 2 = 0#2 then .ok (.vlpClass1 (b0.extractLsb' 0 6)) else .error .wrongSize
  | [b0, b1] => if b0.extractLsb' 6 2 = 1#2 then .ok (.vlpClass2 (b0.extractLsb' 0 6 ++ b1)) else .error .wrongSize
  | [b0, b1, b2] =>
    if b0.extractLsb' 6 2 = 2#2 then .ok (.vlpClass3 (b0.extractLsb' 0 6 ++ b1 ++ b2)) else .error .wrongSize
  | [b0, b1, b2, b3] =>
    if b0.extractLsb' 6 2 = 3#2 then .ok (.vlpClass4 (b0.extractLsb' 0 6 ++ b1 ++ b2 ++ b3)) else .error .wrongSize
  | _ => .error .wrongSize

/-- The first byte of a frame (R64): 0x00 and 0x80 are illegal, else bit 7 says whether a message id follows. -/
def decodeVersion (b : Byte) : Instr :=
  match b.toNat with
  | 0x00 => .verIllegal00
  | 0x80 => .verIllegal80
  | _ => if b.extractLsb' 7 1 = 1#1 then .verWithMsgId (b.extractLsb' 0 7) else .verNoMsgId (b.extractLsb' 0 7)

/-- An error kind code (R251); 0 and 9 to 15 are reserved (U7). -/
def decodeErrorKind (b : Byte) : Except DecodeError Instr :=
  match b.toNat with
  | 1 => .ok .errkind1MalformedFrame
  | 2 => .ok .errkind2IntegrityError
  | 3 => .ok .errkind3UnknownDataType
  | 4 => .ok .errkind4ValueOutOfRange
  | 5 => .ok .errkind5TypeMismatch
  | 6 => .ok .errkind6ArityError
  | 7 => .ok .errkind7JsonParseError
  | 8 => .ok .errkind8MissingField
  | _ => .error .notAnErrorKind

/-- The decoder: the instruction a byte sequence is in a format, or why it is none. -/
def decode (fmt : Format) (bs : Bytes) : Except DecodeError Instr :=
  match fmt, bs with
  | .cmdw, [b] => decodeCommand b
  | .opc8, [b] => .ok (decodeOperationCode b)
  | .opcset, [b] => .ok (decodeTreatment b)
  | .fidDataType, [hi, lo] => .ok (decodeFidDataType (hi ++ lo))
  | .fidFunctionType, [hi, lo] => .ok (decodeFidFunctionType (hi ++ lo))
  | .fidResourceType, [hi, lo] => .ok (decodeFidResourceType (hi ++ lo))
  | .fidMarker, [hi, lo] => decodeFidMarker (hi ++ lo)
  | .vlp, bs => decodePrefix bs
  | .ver, [b] => .ok (decodeVersion b)
  | .errkind, [b] => decodeErrorKind b
  | _, _ => .error .wrongSize

/-- A command word with `CMD` and `VT` in its seven bits (R61). -/
def commandWord (cmd : BitVec 4) (vt : BitVec 3) : Bytes := [0#1 ++ cmd ++ vt]

/-- The 16 bits of a function id, big-endian (R71, R40). -/
def fidBytes (w : Half) : Bytes := [w.extractLsb' 8 8, w.extractLsb' 0 8]

/-- The 16 bits of a function id from its three fields (R71). -/
def fidOf (dataType : BitVec 3) (functionType : BitVec 2) (resourceId : BitVec 11) : Half :=
  dataType ++ functionType ++ resourceId

/-- The bytes of an instruction's word, written from the encodings of spec/30_encoding.md. -/
def encode : Instr → Bytes
  | .crcInit vt => commandWord 0x0#4 vt
  | .crcByte vt => commandWord 0x1#4 vt
  | .crcBlock vt => commandWord 0x2#4 vt
  | .valEncBoolean => commandWord 0x3#4 0#3
  | .valEncEnum => commandWord 0x3#4 1#3
  | .valEncInteger => commandWord 0x3#4 2#3
  | .valEncFloat => commandWord 0x3#4 3#3
  | .valEncBuffer => commandWord 0x3#4 4#3
  | .valEncException => commandWord 0x3#4 5#3
  | .valEncString => commandWord 0x3#4 6#3
  | .valEncJson => commandWord 0x3#4 7#3
  | .valDecBoolean => commandWord 0x4#4 0#3
  | .valDecEnum => commandWord 0x4#4 1#3
  | .valDecInteger => commandWord 0x4#4 2#3
  | .valDecFloat => commandWord 0x4#4 3#3
  | .valDecBuffer => commandWord 0x4#4 4#3
  | .valDecException => commandWord 0x4#4 5#3
  | .valDecString => commandWord 0x4#4 6#3
  | .valDecJson => commandWord 0x4#4 7#3
  | .valSel vt => commandWord 0x5#4 vt
  | .fidEnc vt => commandWord 0x6#4 vt
  | .fidDec vt => commandWord 0x7#4 vt
  | .opcEnc vt => commandWord 0x8#4 vt
  | .opcDec vt => commandWord 0x9#4 vt
  | .vlpEnc vt => commandWord 0xa#4 vt
  | .vlpDec vt => commandWord 0xb#4 vt
  | .pkg vt => commandWord 0xc#4 vt
  | .parse vt => commandWord 0xd#4 vt
  | .cmdReservedE vt => commandWord 0xe#4 vt
  | .cmdReservedF vt => commandWord 0xf#4 vt
  | .opc8Resource00NotifyDefault operation type => [operation ++ type ++ 0x00#6]
  | .opc8Resource01Read operation type => [operation ++ type ++ 0x01#6]
  | .opc8Resource02Write operation type => [operation ++ type ++ 0x02#6]
  | .opc8Resource03Notify operation type => [operation ++ type ++ 0x03#6]
  | .opc8Resource04NotifyDefault operation type => [operation ++ type ++ 0x04#6]
  | .opc8Resource05NotifyDefault operation type => [operation ++ type ++ 0x05#6]
  | .opc8Resource06NotifyDefault operation type => [operation ++ type ++ 0x06#6]
  | .opc8Resource07NotifyDefault operation type => [operation ++ type ++ 0x07#6]
  | .opc8Resource08NotifyDefault operation type => [operation ++ type ++ 0x08#6]
  | .opc8Resource09NotifyDefault operation type => [operation ++ type ++ 0x09#6]
  | .opc8Resource0aNotifyDefault operation type => [operation ++ type ++ 0x0a#6]
  | .opc8Resource0bNotifyDefault operation type => [operation ++ type ++ 0x0b#6]
  | .opc8Resource0cNotifyDefault operation type => [operation ++ type ++ 0x0c#6]
  | .opc8Resource0dNotifyDefault operation type => [operation ++ type ++ 0x0d#6]
  | .opc8Resource0eNotifyDefault operation type => [operation ++ type ++ 0x0e#6]
  | .opc8Resource0fNotifyDefault operation type => [operation ++ type ++ 0x0f#6]
  | .opc8Resource10NotifyDefault operation type => [operation ++ type ++ 0x10#6]
  | .opc8Resource11NotifyDefault operation type => [operation ++ type ++ 0x11#6]
  | .opc8Resource12NotifyDefault operation type => [operation ++ type ++ 0x12#6]
  | .opc8Resource13NotifyDefault operation type => [operation ++ type ++ 0x13#6]
  | .opc8Resource14NotifyDefault operation type => [operation ++ type ++ 0x14#6]
  | .opc8Resource15NotifyDefault operation type => [operation ++ type ++ 0x15#6]
  | .opc8Resource16NotifyDefault operation type => [operation ++ type ++ 0x16#6]
  | .opc8Resource17NotifyDefault operation type => [operation ++ type ++ 0x17#6]
  | .opc8Resource18NotifyDefault operation type => [operation ++ type ++ 0x18#6]
  | .opc8Resource19NotifyDefault operation type => [operation ++ type ++ 0x19#6]
  | .opc8Resource1aNotifyDefault operation type => [operation ++ type ++ 0x1a#6]
  | .opc8Resource1bNotifyDefault operation type => [operation ++ type ++ 0x1b#6]
  | .opc8Resource1cNotifyDefault operation type => [operation ++ type ++ 0x1c#6]
  | .opc8Resource1dNotifyDefault operation type => [operation ++ type ++ 0x1d#6]
  | .opc8Resource1eNotifyDefault operation type => [operation ++ type ++ 0x1e#6]
  | .opc8Resource1fNotifyDefault operation type => [operation ++ type ++ 0x1f#6]
  | .opc8System00Reset operation type => [operation ++ type ++ 0x20#6]
  | .opc8System01Recovery operation type => [operation ++ type ++ 0x21#6]
  | .opc8System02RegisterDefault operation type => [operation ++ type ++ 0x22#6]
  | .opc8System03Deregister operation type => [operation ++ type ++ 0x23#6]
  | .opc8System04Enable operation type => [operation ++ type ++ 0x24#6]
  | .opc8System05Disable operation type => [operation ++ type ++ 0x25#6]
  | .opc8System06Label operation type => [operation ++ type ++ 0x26#6]
  | .opc8System07Upgrade operation type => [operation ++ type ++ 0x27#6]
  | .opc8System08RegisterDefault operation type => [operation ++ type ++ 0x28#6]
  | .opc8System09RegisterDefault operation type => [operation ++ type ++ 0x29#6]
  | .opc8System0aRegisterDefault operation type => [operation ++ type ++ 0x2a#6]
  | .opc8System0bRegisterDefault operation type => [operation ++ type ++ 0x2b#6]
  | .opc8System0cRegisterDefault operation type => [operation ++ type ++ 0x2c#6]
  | .opc8System0dRegisterDefault operation type => [operation ++ type ++ 0x2d#6]
  | .opc8System0eRegisterDefault operation type => [operation ++ type ++ 0x2e#6]
  | .opc8System0fRegisterDefault operation type => [operation ++ type ++ 0x2f#6]
  | .opc8System10RegisterDefault operation type => [operation ++ type ++ 0x30#6]
  | .opc8System11RegisterDefault operation type => [operation ++ type ++ 0x31#6]
  | .opc8System12RegisterDefault operation type => [operation ++ type ++ 0x32#6]
  | .opc8System13RegisterDefault operation type => [operation ++ type ++ 0x33#6]
  | .opc8System14RegisterDefault operation type => [operation ++ type ++ 0x34#6]
  | .opc8System15RegisterDefault operation type => [operation ++ type ++ 0x35#6]
  | .opc8System16RegisterDefault operation type => [operation ++ type ++ 0x36#6]
  | .opc8System17RegisterDefault operation type => [operation ++ type ++ 0x37#6]
  | .opc8System18RegisterDefault operation type => [operation ++ type ++ 0x38#6]
  | .opc8System19RegisterDefault operation type => [operation ++ type ++ 0x39#6]
  | .opc8System1aRegisterDefault operation type => [operation ++ type ++ 0x3a#6]
  | .opc8System1bRegisterDefault operation type => [operation ++ type ++ 0x3b#6]
  | .opc8System1cRegisterDefault operation type => [operation ++ type ++ 0x3c#6]
  | .opc8System1dDeleteTopology operation type => [operation ++ type ++ 0x3d#6]
  | .opc8System1eOffline operation type => [operation ++ type ++ 0x3e#6]
  | .opc8System1fOnline operation type => [operation ++ type ++ 0x3f#6]
  | .opcsetBareReadCode01 => [0x01#8]
  | .opcsetModebN2Code7f => [0x7f#8]
  | .opcsetModebN2Code7e => [0x7e#8]
  | .opcsetModebN2Code64 => [0x64#8]
  | .opcsetModebN2Code65 => [0x65#8]
  | .opcsetModebN3Code62 => [0x62#8]
  | .opcsetModebN3Code63 => [0x63#8]
  | .opcsetModebN3LastbareCode41 => [0x41#8]
  | .opcsetModebN3LastbareCodec2 => [0xc2#8]
  | .opcsetModeaFlattenCode43 => [0x43#8]
  | .opcsetModeaFlattenCodec1 => [0xc1#8]
  | .opcsetModeaDefault operation low => [operation ++ 1#1 ++ low]
  | .opcsetDeviceDefault operation low => [operation ++ 0#1 ++ low]
  | .fid16DataType0Reserved functionType resourceId => fidBytes (fidOf 0#3 functionType resourceId)
  | .fid16DataType1Boolean functionType resourceId => fidBytes (fidOf 1#3 functionType resourceId)
  | .fid16DataType2Enum functionType resourceId => fidBytes (fidOf 2#3 functionType resourceId)
  | .fid16DataType3Integer functionType resourceId => fidBytes (fidOf 3#3 functionType resourceId)
  | .fid16DataType4Float functionType resourceId => fidBytes (fidOf 4#3 functionType resourceId)
  | .fid16DataType5Buffer functionType resourceId => fidBytes (fidOf 5#3 functionType resourceId)
  | .fid16DataType6Exception functionType resourceId => fidBytes (fidOf 6#3 functionType resourceId)
  | .fid16DataType7String functionType resourceId => fidBytes (fidOf 7#3 functionType resourceId)
  | .fid16FunctionType0Reserve dataType resourceId => fidBytes (fidOf dataType 0#2 resourceId)
  | .fid16FunctionType1Custom dataType resourceId => fidBytes (fidOf dataType 1#2 resourceId)
  | .fid16FunctionType2Property dataType resourceId => fidBytes (fidOf dataType 2#2 resourceId)
  | .fid16FunctionType3Event dataType resourceId => fidBytes (fidOf dataType 3#2 resourceId)
  | .fid16ResourceTypeCommon000To3ff dataType functionType low => fidBytes (fidOf dataType functionType (0#1 ++ low))
  | .fid16ResourceTypeCommon400To4ff dataType functionType low => fidBytes (fidOf dataType functionType (4#3 ++ low))
  | .fid16ResourceTypeCombine500To5ff dataType functionType low => fidBytes (fidOf dataType functionType (5#3 ++ low))
  | .fid16ResourceTypeCombine600To6ff dataType functionType low => fidBytes (fidOf dataType functionType (6#3 ++ low))
  | .fid16ResourceTypeStatic700To7ff dataType functionType low => fidBytes (fidOf dataType functionType (7#3 ++ low))
  | .fid16MarkerE801NewGroup => fidBytes 0xe801#16
  | .fid16MarkerE803Time => fidBytes 0xe803#16
  | .vlpClass1 len => [0#2 ++ len]
  | .vlpClass2 len => [1#2 ++ len.extractLsb' 8 6, len.extractLsb' 0 8]
  | .vlpClass3 len => [2#2 ++ len.extractLsb' 16 6, len.extractLsb' 8 8, len.extractLsb' 0 8]
  | .vlpClass4 len => [3#2 ++ len.extractLsb' 24 6, len.extractLsb' 16 8, len.extractLsb' 8 8, len.extractLsb' 0 8]
  | .verIllegal00 => [0x00#8]
  | .verIllegal80 => [0x80#8]
  | .verNoMsgId rawVersion => [0#1 ++ rawVersion]
  | .verWithMsgId rawVersion => [1#1 ++ rawVersion]
  | .errkind1MalformedFrame => [0x01#8]
  | .errkind2IntegrityError => [0x02#8]
  | .errkind3UnknownDataType => [0x03#8]
  | .errkind4ValueOutOfRange => [0x04#8]
  | .errkind5TypeMismatch => [0x05#8]
  | .errkind6ArityError => [0x06#8]
  | .errkind7JsonParseError => [0x07#8]
  | .errkind8MissingField => [0x08#8]

/-- The format a bare table word is presented in (log entry 4). One word can be a word of several formats, and `nbits` does
not say which, so: the first row of the table, in its order, whose `match` is exactly `w`; else the first row whose fixed
bits agree with `w`. -/
def tableFormat (nbits w : Nat) : Format :=
  if nbits ≤ 8 then
    if w < 0x80 ∧ (w % 8 = 0 ∧ 0x40 ≤ w ∨ w ∈ [0x00, 0x08, 0x10, 0x28, 0x30, 0x38] ∨ 0x18 ≤ w ∧ w < 0x28) then .cmdw
    else if w < 0x40 then .opc8
    else if w ∈ [0x7F, 0x7E, 0x64, 0x65, 0x62, 0x63, 0x41, 0xC2, 0x43, 0xC1] then .opcset
    else if w = 0x80 then .ver
    else if w < 0x80 then .cmdw
    else .opc8
  else if nbits ≤ 16 then
    if w % 0x2000 = 0 then .fidDataType
    else if w ∈ [0x0800, 0x1000, 0x1800] then .fidFunctionType
    else if w ∈ [0x0400, 0x0500, 0x0600, 0x0700] then .fidResourceType
    else if w ∈ [0xE801, 0xE803] then .fidMarker
    else if w = 0x0040 then .vlp
    else .fidDataType
  else .vlp

/-- The bytes of a table word in the order the block stores them: a function id is one 16-bit word, high byte first (R40); the
bytes of a prefix are words of their own, the first in the low bits of `w`. -/
def tableBytes (nbits w : Nat) : Bytes :=
  match tableFormat nbits w with
  | .fidDataType | .fidFunctionType | .fidResourceType | .fidMarker => fidBytes (BitVec.ofNat 16 w)
  | .vlp => (List.range ((nbits + 7) / 8)).map fun i => BitVec.ofNat 8 (w / 256 ^ i)
  | _ => [BitVec.ofNat 8 w]

/-- The instruction the decoder reads from a table word of `nbits` bits. -/
def decodeTableWord (nbits w : Nat) : Option Instr :=
  match decode (tableFormat nbits w) (tableBytes nbits w) with
  | .ok i => some i
  | .error _ => none

end Sys2Proof
end

