-- ==== Sys2Proof/Machine/State.lean ====
section
/-! DEFINITION. The state of the block as plain data: the registers of spec/10_state.md R21 to R25, the two byte spaces of
R29, the result record, the configuration the host supplied (R28), and the host's side of the interface: the operand ports
and what it is still to do (log entries 1 and 2). `draws` is the model's own counter for free values. -/

namespace Sys2Proof.Machine

open Sys2Proof

/-- A byte space (R29): the (address, byte) pairs of a byte sequence, addresses 0, 1, 2, … in order. An address that is not
listed does not exist: it has no value, and reading it faults (spec/20_memory.md R46). -/
abbrev Memory := List Host.Cell

/-- What an unlisted address reads as: nothing (R46). -/
def Memory.unlisted : Option Byte := none

/-- The canonical form: the listed addresses are exactly 0 up to the number of entries, rising. -/
def Memory.wf (m : Memory) : Bool := m.map Prod.fst == List.range m.length

/-- Where the bytes of `IBUF` come from when the host issues a command: fresh bytes, what it read from `OBUF` (as in the
programs of spec/95_test_vectors.md, `PARSE (OBUF, t0)`), or the bytes already there. -/
inductive InputSource where
  | bytes (bs : Bytes)
  | fromObuf
  | held
deriving DecidableEq, Repr, Inhabited

/-- One command issued by the host (spec/70_reset_and_hazards.md R295): the configuration it hands over (`none` leaves it as it
stands; R283), a word in its format, the operands (`none` leaves the ports as they stand), and the input bytes. -/
structure Issue where
  params : Option Params
  format : Format
  word : Bytes
  operands : Option Operands
  input : InputSource
deriving DecidableEq, Repr, Inhabited

/-- What the host does at a command boundary (spec/70_reset_and_hazards.md R295): it resets the block, for which it hands over
nothing (R280), or it issues a command. -/
inductive HostAction where
  | reset
  | command (i : Issue)
deriving DecidableEq, Repr, Inhabited

/-- The configuration an action hands over, if it hands one over. -/
def HostAction.params : HostAction → Option Params
  | .reset => none
  | .command i => i.params

/-- The machine. -/
structure State where
  /-- `CRC`, 16 bits (R21). -/
  crc : Half
  /-- `POS`, the byte cursor (R22). -/
  pos : Nat
  /-- `DEPTH`, the combine nesting depth (R23). -/
  depth : Nat
  /-- `STEP`, the step counter, 1 to 9 (R24). -/
  stepCtr : Nat
  /-- `ERR`, the error record (R25). -/
  err : ErrRecord
  /-- `IBUF`, the input bytes of the current command (R29). -/
  ibuf : Memory
  /-- `OBUF`, the output bytes of a command (R29). -/
  obuf : Memory
  /-- The result record (R12, R36, R294). -/
  result : Result
  /-- The configuration parameters, fixed by the host (R9, R28, R283). -/
  params : Params
  /-- The operand ports (R11). -/
  ports : Operands
  /-- What the host is still to do, the next action first (R295). -/
  script : List HostAction
  /-- The model's own: how many free values have been drawn. -/
  draws : Nat
deriving DecidableEq, Repr

/-- Why the machine stops. -/
inductive Fault where
  /-- The host presented bytes that are no word of the format they are presented in. Raised by `step` when the decoder
  rejects them. Safe: the block has no transition for them (spec/30_encoding.md R60). -/
  | illegalWord (reason : DecodeError)
deriving DecidableEq, Repr, Inhabited

/-- What the block refuses. -/
inductive Refusal where
  /-- An instruction with no meaning in this model. Raised by `exec` only. Safe. -/
  | notModelled (mnemonic : String)
  /-- A reserved command code, 0xE or 0xF: the block refuses the command, changes no state and produces no result
  (spec/30_encoding.md R81, spec/93_implementation_defined.md U11). Raised by the meanings of the two reserved rows.
  Safe: the spec gives such a command no transition. -/
  | reservedCommand (cmd : BitVec 4)
deriving DecidableEq, Repr, Inhabited

/-- The outcome of a step of this machine. -/
abbrev Outcome := Host.Outcome State Fault Refusal

/-- The default configuration (R9): boolean 1, enum 2, integer 3, float 4, buffer 5, exception 6, string 7; register code 2;
no depth limit. -/
def defaultParams : Params :=
  { dtCode := { boolean := 1, enum := 2, integer := 3, float := 4, buffer := 5, exception := 6, string := 7 }
    sysRegisterCode := 2
    maxDepth := none }

/-- Every operand port at zero, absent or empty. -/
def zeroOperands : Operands :=
  { byte := 0, value := .Absent, pos := 0, fid := 0, dataType := 0, functionType := 0, resourceId := 0
    opDesc := { method := .read, target := .resource, type := .device, operation := .request }
    opcode := 0, len := 0
    request :=
      { rawVersion := 0, id := none
        operations := { method := .read, target := .resource, type := .device, operation := .request }
        opCode := none, code := none, groupId := none, params := .nil }
    now := { token := 0 } }

/-- The machine right after reset (R38, spec/70_reset_and_hazards.md R281). The fields of `ERR` but `valid`, the result record,
the ports and `draws` have no reset value in the spec; the log names those chosen here (entry 5). -/
def State.reset : State :=
  { crc := 0xFFFF
    pos := 0
    depth := 0
    stepCtr := 1
    err := { valid := false, kind := 0, hasMsgId := false, msgId := 0, hasOp := false, opcode := 0 }
    ibuf := []
    obuf := []
    result := .empty
    params := defaultParams
    ports := zeroOperands
    script := []
    draws := 0 }

end Sys2Proof.Machine
end

