-- ==== Sys2Proof/Machine/Constants.lean ====
section
/-! DEFINITION. The fixed constants of spec/00_scope.md R8, which a model hard-codes. -/

namespace Sys2Proof.Machine

open Sys2Proof

/-- `CRC_POLY` (R8). -/
def crcPoly : Half := 0x1021

/-- `CRC_INIT` (R8). -/
def crcInitValue : Half := 0xFFFF

/-- `MAX_LEN`, the largest encodable length (R8). -/
def maxLen : Nat := 0x3FFFFFFF

/-- The version flag offset: a first byte above it says that a message id follows (R8, R64). -/
def versionFlag : Nat := 128

/-- The largest rawVersion on encode (R8). -/
def maxRawVersion : Int := 99

/-- The least integer the integer encoder takes (R8). -/
def minInteger : Int := -65536

/-- The greatest integer the integer encoder takes (R8). -/
def maxInteger : Int := 65535

/-- The group-start marker of mode A (R8, R75). -/
def groupMarker : Half := 0xE801

/-- The time marker of mode A (R8, R75). -/
def timeMarker : Half := 0xE803

/-- The fixed-count code set with N = 2 (R8, R225). -/
def pairCodes : List Byte := [0x7F, 0x7E, 0x64, 0x65]

/-- The fixed-count code set with N = 3 (R8, R225). -/
def tripleCodes : List Byte := [0x62, 0x63, 0x41, 0xC2]

/-- The codes of the N = 3 set whose groups end in an entry without a value (R8, R227). -/
def lastBareCodes : List Byte := [0x41, 0xC2]

/-- The flattening codes (R8, R230). -/
def flattenCodes : List Byte := [0x43, 0xC1]

/-- The first resource id of the combine range (R8, R142). -/
def combineFirst : Nat := 0x500

/-- The first resource id of the static range, one above the combine range (R8, R142). -/
def staticFirst : Nat := 0x700

/-- The operation code of a device-level READ request (R69, R151). -/
def deviceReadCode : Byte := 0x01

/-- The operation code of a sub-device-level READ request (R69, R151). -/
def subDeviceReadCode : Byte := 0x41

end Sys2Proof.Machine
end

