-- ==== Sys2Proof/Machine/Flags.lean ====
section
/-! DEFINITION. The block has no status flags and no condition codes (spec/10_state.md R27). In their place stand predicates
computed from an operation code and never stored between commands (R27, spec/42_bitfield_codecs.md R151), and the
treatment of a payload that they choose (spec/45_parser.md R208, R220). -/

namespace Sys2Proof.Machine

open Sys2Proof

/-- Bit 7: the code is a response (R151). -/
def isResponse (c : Byte) : Bool := c.getLsbD 7

/-- Bit 6: the code is at sub-device level (R151). -/
def isSubDevice (c : Byte) : Bool := c.getLsbD 6

/-- Bit 5: the target is the system (R151). -/
def isSystem (c : Byte) : Bool := c.getLsbD 5

/-- The resource method `read`, in a request or a response (R151). -/
def isRead (c : Byte) : Bool := !isSystem c && c.extractLsb' 0 5 == 1#5

/-- The device-level READ request, by its value (R151). -/
def isDeviceReadReq (c : Byte) : Bool := c = deviceReadCode

/-- The sub-device-level READ request, by its value (R151). -/
def isSubDeviceReadReq (c : Byte) : Bool := c = subDeviceReadCode

/-- A request that is not a system command on a device: its minimum length counts one function id (R151, R203). -/
def tightened (c : Byte) : Bool := !isResponse c && !(!isSubDevice c && isSystem c)

/-- The fixed entry count of mode B, for the codes of the two sets only (R151, R225). -/
def modeBCount (c : Byte) : Option Nat :=
  if c ∈ pairCodes then some 2 else if c ∈ tripleCodes then some 3 else none

/-- The last entry of a mode B group is a function id alone (R151, R227). -/
def lastBare (c : Byte) : Bool := c ∈ lastBareCodes

/-- The flattening pass applies (R151, R230). -/
def flattens (c : Byte) : Bool := c ∈ flattenCodes

/-- The parser's bare mode: the code is exactly 0x01 (R215). -/
def bareMode (c : Byte) : Bool := isDeviceReadReq c

/-- The packager's `bare` flag: a device-level READ request with exactly one top-level entry
(spec/44_packager.md R178). -/
def isBare (c : Byte) (n : Nat) : Bool := isDeviceReadReq c && n = 1

/-- How the parser treats a payload under an operation code (R208, R216, R220). -/
def treatmentOf (c : Byte) : Treatment :=
  if isSubDevice c then
    match modeBCount c with
    | some n => .modeB n (lastBare c)
    | none => .modeA (flattens c)
  else .deviceLevel (bareMode c)

end Sys2Proof.Machine
end

