-- ==== Sys2Proof/Machine/Ops.lean ====
section
/-! DEFINITION. The shared operations: the byte spaces, reads of a window, how a command completes, and how it faults. A
fault of this block is its exception: `takeFault` is the one operation that takes it (spec/60_exceptions.md R250, R251, R261,
R264). There is no return from it: no handler, no vector, no saved context; the next command overwrites `ERR` (R265). -/

namespace Sys2Proof.Machine

open Sys2Proof

/-- The entries of a byte sequence placed from an address on. -/
def Memory.entriesFrom : Nat → Bytes → Memory
  | _, [] => []
  | a, b :: bs => (a, b) :: Memory.entriesFrom (a + 1) bs

/-- A byte space that holds exactly a byte sequence (R29). -/
def Memory.ofBytes (bs : Bytes) : Memory := Memory.entriesFrom 0 bs

/-- The byte sequence a byte space holds. -/
def Memory.bytes (m : Memory) : Bytes := m.map Prod.snd

/-- The byte at an address; an unlisted address has none. -/
def Memory.read (m : Memory) (a : Nat) : Option Byte :=
  match m.find? (fun e => e.1 == a) with
  | some e => some e.2
  | none => Memory.unlisted

/-- `Emit(bs)`: append at the current end (spec/00_scope.md R13, spec/20_memory.md R48). -/
def Memory.append (m : Memory) (bs : Bytes) : Memory := m ++ Memory.entriesFrom m.length bs

/-- `MemReadBytes(addr, n)`: `n` bytes of a window, or `MalformedFrame` when it ends before them (R46). -/
def memReadBytes (w : Bytes) (addr n : Nat) : Except ErrKind Bytes :=
  if addr + n ≤ w.length then .ok ((w.drop addr).take n) else .error .malformedFrame

/-- `MemRead(addr, n)`: the unsigned number those bytes hold (R46, R13). -/
def memRead (w : Bytes) (addr n : Nat) : Except ErrKind Nat :=
  match memReadBytes w addr n with
  | .ok bs => .ok (ubeNat bs)
  | .error k => .error k

/-- The bytes of a window that stand in `[first, last)` (R13). -/
def slice (w : Bytes) (first last : Nat) : Bytes := (w.drop first).take (last - first)

/-- The code of an error kind (R251). -/
def errKindCode : ErrKind → BitVec 4
  | .malformedFrame => 1
  | .integrityError => 2
  | .unknownDataType => 3
  | .valueOutOfRange => 4
  | .typeMismatch => 5
  | .arityError => 6
  | .jsonParseError => 7
  | .missingField => 8

/-- The end of a command that completes and leaves `CRC` at a value of its own: `ERR.valid` becomes 0, and the other fields of
`ERR` are unspecified (R25, R250). -/
def completeCrc (crc : Half) (s : State) : State :=
  { s with
    crc := crc
    err := { Config.freeErr s.draws with valid := false }
    draws := s.draws + 1 }

/-- The end of any other command that completes: `CRC` is unspecified after it (R21). -/
def complete (s : State) : State := completeCrc (Config.freeCrc s.draws) s

/-- A command completes with a result record. -/
def deliver (r : Result) (s : State) : State := { complete s with result := r }

/-- A command completes with bytes in `OBUF`, which holds exactly the bytes of the current command (R29). -/
def emit (bs : Bytes) (s : State) : State := { complete s with obuf := Memory.append [] bs }

/-- The error record of a fault: its kind, and the correlation fields where the fault has them (R251, R261,
spec/45_parser.md R210). A field that no rule writes is unspecified. -/
def faultRecord (kind : ErrKind) (corr : Option Correlation) (free : ErrRecord) : ErrRecord :=
  { valid := true
    kind := errKindCode kind
    hasMsgId := (corr.bind Correlation.msgId).isSome
    msgId := (corr.bind Correlation.msgId).getD free.msgId
    hasOp := corr.isSome
    opcode := (corr.map Correlation.opcode).getD free.opcode }

/-- TAKING A FAULT. The command ends; `ERR` is written; `CRC`, `POS`, `DEPTH`, `STEP`, `OBUF` and the result record are left
unspecified; control goes nowhere (R264). -/
def takeFault (kind : ErrKind) (corr : Option Correlation) (s : State) : State :=
  { s with
    crc := Config.freeCrc s.draws
    pos := Config.freePos s.draws
    depth := Config.freeDepth s.draws
    stepCtr := (Config.freeStep s.draws).val + 1
    err := faultRecord kind corr (Config.freeErr s.draws)
    obuf := Memory.append [] (Config.freeBytes s.draws)
    result := Config.freeResult s.draws
    draws := s.draws + 1 }

/-- RESET at a command boundary (spec/70_reset_and_hazards.md R280, R281): the registers and the byte spaces at their reset
values; the other fields of `ERR` and the result record are unspecified. The configuration is not state and stays (R28), and
the ports and the host's list are the host's. -/
def resetBlock (s : State) : State :=
  { s with
    crc := State.reset.crc
    pos := State.reset.pos
    depth := State.reset.depth
    stepCtr := State.reset.stepCtr
    err := { Config.freeErr s.draws with valid := State.reset.err.valid }
    ibuf := State.reset.ibuf
    obuf := State.reset.obuf
    result := Config.freeResult s.draws
    draws := s.draws + 1 }

/-- The end of a command whose result is bytes in `OBUF`. -/
def finishEmit (r : Except ErrKind Bytes) (s : State) : Outcome :=
  match r with
  | .ok bs => .next (emit bs s)
  | .error k => .next (takeFault k none s)

/-- The end of a command whose result is a record. -/
def finishDeliver (r : Except ErrKind Result) (s : State) : Outcome :=
  match r with
  | .ok x => .next (deliver x s)
  | .error k => .next (takeFault k none s)

/-- The end of a command that reads at an offset of `IBUF`: besides its result it moves `POS` past the bytes it consumed
(R22, spec/41_value_transcoders.md part 3, spec/43_varlen_prefix.md R162). -/
def finishRead (r : Except ErrKind (Result × Nat)) (pos : Nat) (s : State) : Outcome :=
  match r with
  | .ok (x, n) => .next { deliver x s with pos := pos + n }
  | .error k => .next (takeFault k none s)

end Sys2Proof.Machine
end

