-- ==== Sys2Proof/Machine/Operands.lean ====
section
/-! DEFINITION. The operand forms (spec/00_scope.md R12): the input window, the operand ports, and the codes that number the
names of the structured domain (spec/30_encoding.md R62, R66, R72, R73). -/

namespace Sys2Proof.Machine

open Sys2Proof

/-- The window a command reads: all of `IBUF` (R29, spec/20_memory.md R46). -/
def State.window (s : State) : Bytes := s.ibuf.bytes

/-- The offset operand of `VAL.DEC` and `VLP.DEC`. -/
def State.offset (s : State) : Nat := s.ports.pos

/-- The function type of a code (R73). -/
def functionTypeOf (code : BitVec 2) : FunctionType :=
  match code.toNat with
  | 0 => .reserve
  | 1 => .custom
  | 2 => .property
  | _ => .event

/-- The number of a data type under `DT_CODE` (R9, R72). -/
def dataTypeCode (p : Params) : DataType → BitVec 3
  | .boolean => p.dtCode.boolean
  | .enum => p.dtCode.enum
  | .integer => p.dtCode.integer
  | .float => p.dtCode.float
  | .buffer => p.dtCode.buffer
  | .exception => p.dtCode.exception
  | .string => p.dtCode.string

/-- The seven data types (R72). -/
def dataTypes : List DataType := [.boolean, .enum, .integer, .float, .buffer, .exception, .string]

/-- The data type a number stands for: the one with that code (R113). -/
def dataTypeOf (p : Params) (code : BitVec 3) : Option DataType :=
  dataTypes.find? (fun t => dataTypeCode p t == code)

/-- `DT_CODE` is a bijection from the seven types onto 1 to 7 (R9). -/
def paramsWf (p : Params) : Bool :=
  (dataTypes.map (dataTypeCode p)).Nodup && dataTypes.all (fun t => dataTypeCode p t != 0)

/-- The transcoder of a data type (R113), before the event rule of strings. -/
def tagOf : DataType → Tag
  | .boolean => .boolean
  | .enum => .enum
  | .integer => .integer
  | .float => .float
  | .buffer => .buffer
  | .exception => .exception
  | .string => .string

/-- The direction bit (R66). -/
def operationBit : Operation → BitVec 1
  | .request => 0
  | .response => 1

/-- The direction of a bit (R66). -/
def operationOf (b : BitVec 1) : Operation := if b = 1#1 then .response else .request

/-- The device class bit (R66). -/
def deviceBit : DeviceKind → BitVec 1
  | .device => 0
  | .subDevice => 1

/-- The device class of a bit (R66). -/
def deviceOf (b : BitVec 1) : DeviceKind := if b = 1#1 then .subDevice else .device

/-- The target bit (R66). -/
def targetBit : Target → BitVec 1
  | .resource => 0
  | .system => 1

/-- The target of a bit (R66). -/
def targetOf (b : BitVec 1) : Target := if b = 1#1 then .system else .resource

/-- The members of a combine group, as a list. -/
def pointsList : FunctionPoints → List FunctionPoint
  | .nil => []
  | .cons p ps => p :: pointsList ps

/-- A list of function points, as the members of a combine group. -/
def pointsOfList : List FunctionPoint → FunctionPoints
  | [] => .nil
  | p :: ps => .cons p (pointsOfList ps)

/-- The entries of a request, as a list. -/
def entriesList : Entries → List Entry
  | .nil => []
  | .cons e es => e :: entriesList es

/-- A list of entries, as the entries of a request. -/
def entriesOfList : List Entry → Entries
  | [] => .nil
  | e :: es => .cons e (entriesOfList es)

/-- The function id of a function point. -/
def pointId : FunctionPoint → Half
  | .mk fid _ _ => fid

/-- The value of a function point. -/
def pointValue : FunctionPoint → Value
  | .mk _ _ v => v

/-- A function point with another value. -/
def pointWithValue : FunctionPoint → Value → FunctionPoint
  | .mk fid f _, v => .mk fid f v

/-- The dictionary view a host makes of a list of pairs: of two pairs with one function id the later replaces the earlier
(spec/10_state.md R37, spec/45_parser.md R231). No command makes it: a result keeps every pair. -/
def dictView {α : Type} : List (Half × α) → List (Half × α)
  | [] => []
  | (fid, v) :: rest =>
    let later := dictView rest
    if later.any (fun e => e.1 == fid) then later else (fid, v) :: later

end Sys2Proof.Machine
end

