-- ==== Sys2Proof/Machine/Codecs.lean ====
section
/-! DEFINITION. The function-point codec and the operation-code codec with their commands (spec/42_bitfield_codecs.md). -/

namespace Sys2Proof.Machine

open Sys2Proof

/-- `Classify(functionType, resourceId)` (R142). -/
def classify (t : FunctionType) (resourceId : BitVec 11) : ResourceType :=
  if t = .custom then .unclassified
  else if resourceId.toNat < combineFirst then .common
  else if resourceId.toNat < staticFirst then .combine
  else .static

/-- `FID.ENC`: bits 15 to 13, 12 and 11, 10 to 0 (R140, R71). -/
def fidEnc (dataType : BitVec 3) (functionType : BitVec 2) (resourceId : BitVec 11) : Half :=
  dataType ++ functionType ++ resourceId

/-- The data type bits of a function id (R71). -/
def fidDataTypeBits (fid : Half) : BitVec 3 := fid.extractLsb' 13 3

/-- The function type bits of a function id (R71). -/
def fidFunctionTypeBits (fid : Half) : BitVec 2 := fid.extractLsb' 11 2

/-- The resource id of a function id (R71). -/
def fidResourceIdBits (fid : Half) : BitVec 11 := fid.extractLsb' 0 11

/-- `FID.DEC`: the fields, and the class of the resource id; data type 0 raises `UnknownDataType` (R141). -/
def fidDec (fid : Half) : Except ErrKind FidRecord :=
  if fidDataTypeBits fid = 0 then .error .unknownDataType
  else
    .ok
      { dataType := fidDataTypeBits fid
        functionType := functionTypeOf (fidFunctionTypeBits fid)
        resourceId := fidResourceIdBits fid
        resourceType := classify (functionTypeOf (fidFunctionTypeBits fid)) (fidResourceIdBits fid) }

/-- `VAL.SEL`: the transcoder a function id selects on decode; an event string is json (spec/41_value_transcoders.md R113).
A number that no data type has under a `DT_CODE` that is no bijection is undecodable (spec/60_exceptions.md R254). -/
def valSel (p : Params) (fid : Half) : Except ErrKind Tag :=
  match fidDec fid with
  | .error k => .error k
  | .ok d =>
    match dataTypeOf p d.dataType with
    | none => .error .unknownDataType
    | some t => .ok (if t = .string ∧ d.functionType = .event then .json else tagOf t)

/-- `ResMethodCode(method)` (R146). -/
def resMethodCode : Method → BitVec 5
  | .read => 1
  | .write => 2
  | .notify | .reset | .recovery | .register | .deregister | .enable | .disable | .label | .upgrade | .online | .offline
  | .deleteTopology => 3

/-- `SysMethodCode(method)`; `register` and every foreign method get `SYS_REGISTER_CODE` (R147). -/
def sysMethodCode (p : Params) : Method → BitVec 5
  | .reset => 0
  | .recovery => 1
  | .deregister => 3
  | .enable => 4
  | .disable => 5
  | .label => 6
  | .upgrade => 7
  | .online => 0x1F
  | .offline => 0x1E
  | .deleteTopology => 0x1D
  | .register | .read | .write | .notify => p.sysRegisterCode

/-- `ResMethodName(m)` (R149). -/
def resMethodName (m : BitVec 5) : Method :=
  match m.toNat with
  | 1 => .read
  | 2 => .write
  | _ => .notify

/-- `SysMethodName(m)` (R149). -/
def sysMethodName (m : BitVec 5) : Method :=
  match m.toNat with
  | 0 => .reset
  | 1 => .recovery
  | 3 => .deregister
  | 4 => .enable
  | 5 => .disable
  | 6 => .label
  | 7 => .upgrade
  | 0x1D => .deleteTopology
  | 0x1E => .offline
  | 0x1F => .online
  | _ => .register

/-- `OPC.ENC` (R145): operation, type, target, method from the high bit down. -/
def opcEnc (p : Params) (d : OpDesc) : Byte :=
  operationBit d.operation ++ deviceBit d.type ++ targetBit d.target ++
    (match d.target with
      | .resource => resMethodCode d.method
      | .system => sysMethodCode p d.method)

/-- `OPC.DEC` (R148). -/
def opcDec (c : Byte) : OpDesc :=
  { method :=
      match targetOf (c.extractLsb' 5 1) with
      | .resource => resMethodName (c.extractLsb' 0 5)
      | .system => sysMethodName (c.extractLsb' 0 5)
    target := targetOf (c.extractLsb' 5 1)
    type := deviceOf (c.extractLsb' 6 1)
    operation := operationOf (c.extractLsb' 7 1) }

/-- `VAL.SEL fid` (spec/41_value_transcoders.md R113). -/
def execValSel (_vt : BitVec 3) (s : State) : Outcome :=
  finishDeliver ((valSel s.params s.ports.fid).map .selected) s

/-- `FID.ENC` (R140): no check, so data type 0 packs. -/
def execFidEnc (_vt : BitVec 3) (s : State) : Outcome :=
  .next (deliver (.functionId (fidEnc s.ports.dataType s.ports.functionType s.ports.resourceId)) s)

/-- `FID.DEC fid` (R141). -/
def execFidDec (_vt : BitVec 3) (s : State) : Outcome :=
  finishDeliver ((fidDec s.ports.fid).map .fields) s

/-- `OPC.ENC` (R145). -/
def execOpcEnc (_vt : BitVec 3) (s : State) : Outcome :=
  .next (deliver (.opcode (opcEnc s.params s.ports.opDesc)) s)

/-- `OPC.DEC code` (R148). -/
def execOpcDec (_vt : BitVec 3) (s : State) : Outcome :=
  .next (deliver (.descriptor (opcDec s.ports.opcode)) s)

end Sys2Proof.Machine
end

