-- ==== Sys2Proof/Machine/FunctionIds.lean ====
section
/-! DEFINITION. The function-id rows (spec/30_encoding.md R71 to R75). A data type row is what the selector makes of an id of that type
(spec/41_value_transcoders.md R113); a function type row and a resource range row are what the function-point codec makes of
an id (spec/42_bitfield_codecs.md R141, R142); a marker row is the role of the id in mode A (R75). An id whose data type bits
are 000 raises `UnknownDataType` wherever the codec reads it (R141). -/

namespace Sys2Proof.Machine

open Sys2Proof

/-- The selector reads a function id. -/
def readSelector (fid : Half) (s : State) : Outcome := finishDeliver ((valSel s.params fid).map .selected) s

/-- The function-point codec reads a function id. -/
def readFields (fid : Half) (s : State) : Outcome := finishDeliver ((fidDec fid).map .fields) s

/-- The parser recognises a marker id. -/
def readMarker (m : Marker) (s : State) : Outcome := .next (deliver (.marker m) s)

/-- `FID16.dataType.0.reserved` (R141). -/
def execFid16DataType0Reserved (functionType : BitVec 2) (resourceId : BitVec 11) (s : State) : Outcome :=
  readSelector (fidEnc 0 functionType resourceId) s

/-- `FID16.dataType.1.boolean` (R72). -/
def execFid16DataType1Boolean (functionType : BitVec 2) (resourceId : BitVec 11) (s : State) : Outcome :=
  readSelector (fidEnc 1 functionType resourceId) s

/-- `FID16.dataType.2.enum` (R72). -/
def execFid16DataType2Enum (functionType : BitVec 2) (resourceId : BitVec 11) (s : State) : Outcome :=
  readSelector (fidEnc 2 functionType resourceId) s

/-- `FID16.dataType.3.integer` (R72). -/
def execFid16DataType3Integer (functionType : BitVec 2) (resourceId : BitVec 11) (s : State) : Outcome :=
  readSelector (fidEnc 3 functionType resourceId) s

/-- `FID16.dataType.4.float` (R72). -/
def execFid16DataType4Float (functionType : BitVec 2) (resourceId : BitVec 11) (s : State) : Outcome :=
  readSelector (fidEnc 4 functionType resourceId) s

/-- `FID16.dataType.5.buffer` (R72). -/
def execFid16DataType5Buffer (functionType : BitVec 2) (resourceId : BitVec 11) (s : State) : Outcome :=
  readSelector (fidEnc 5 functionType resourceId) s

/-- `FID16.dataType.6.exception` (R72). -/
def execFid16DataType6Exception (functionType : BitVec 2) (resourceId : BitVec 11) (s : State) : Outcome :=
  readSelector (fidEnc 6 functionType resourceId) s

/-- `FID16.dataType.7.string` (R72). -/
def execFid16DataType7String (functionType : BitVec 2) (resourceId : BitVec 11) (s : State) : Outcome :=
  readSelector (fidEnc 7 functionType resourceId) s

/-- `FID16.functionType.0.reserve` (R73). -/
def execFid16FunctionType0Reserve (dataType : BitVec 3) (resourceId : BitVec 11) (s : State) : Outcome :=
  readFields (fidEnc dataType 0 resourceId) s

/-- `FID16.functionType.1.custom` (R73). -/
def execFid16FunctionType1Custom (dataType : BitVec 3) (resourceId : BitVec 11) (s : State) : Outcome :=
  readFields (fidEnc dataType 1 resourceId) s

/-- `FID16.functionType.2.property` (R73). -/
def execFid16FunctionType2Property (dataType : BitVec 3) (resourceId : BitVec 11) (s : State) : Outcome :=
  readFields (fidEnc dataType 2 resourceId) s

/-- `FID16.functionType.3.event` (R73). -/
def execFid16FunctionType3Event (dataType : BitVec 3) (resourceId : BitVec 11) (s : State) : Outcome :=
  readFields (fidEnc dataType 3 resourceId) s

/-- `FID16.resourceType.common.000-3FF` (R142). -/
def execFid16ResourceTypeCommon000To3ff (dataType : BitVec 3) (functionType : BitVec 2) (low : BitVec 10) (s : State) : Outcome :=
  readFields (fidEnc dataType functionType (0#1 ++ low)) s

/-- `FID16.resourceType.common.400-4FF` (R142). -/
def execFid16ResourceTypeCommon400To4ff (dataType : BitVec 3) (functionType : BitVec 2) (low : BitVec 8) (s : State) : Outcome :=
  readFields (fidEnc dataType functionType (4#3 ++ low)) s

/-- `FID16.resourceType.combine.500-5FF` (R142). -/
def execFid16ResourceTypeCombine500To5ff (dataType : BitVec 3) (functionType : BitVec 2) (low : BitVec 8) (s : State) : Outcome :=
  readFields (fidEnc dataType functionType (5#3 ++ low)) s

/-- `FID16.resourceType.combine.600-6FF` (R142). -/
def execFid16ResourceTypeCombine600To6ff (dataType : BitVec 3) (functionType : BitVec 2) (low : BitVec 8) (s : State) : Outcome :=
  readFields (fidEnc dataType functionType (6#3 ++ low)) s

/-- `FID16.resourceType.static.700-7FF` (R142). -/
def execFid16ResourceTypeStatic700To7ff (dataType : BitVec 3) (functionType : BitVec 2) (low : BitVec 8) (s : State) : Outcome :=
  readFields (fidEnc dataType functionType (7#3 ++ low)) s

/-- `FID16.marker.E801.newGroup` (R223). -/
def execFid16MarkerE801NewGroup (s : State) : Outcome :=
  readMarker .newGroup s

/-- `FID16.marker.E803.time` (R222). -/
def execFid16MarkerE803Time (s : State) : Outcome :=
  readMarker .time s

end Sys2Proof.Machine
end

