-- ==== Sys2Proof/Machine/OperationCodes.lean ====
section
/-! DEFINITION. The sixty-four operation-code rows (spec/30_encoding.md R66 to R68): the operation-code codec reads a code of the row and
gives its descriptor, as `OPC.DEC` does (spec/42_bitfield_codecs.md R148, R149). -/

namespace Sys2Proof.Machine

open Sys2Proof

/-- An operation-code row completes with the descriptor of its target and method and of the two operand bits. -/
def readOperationCode (target : Target) (method : Method) (operation type : BitVec 1) (s : State) : Outcome :=
  .next (deliver (.descriptor
    { method := method, target := target, type := deviceOf type, operation := operationOf operation }) s)

/-- `OPC8.resource.00.notify.default` (R149). -/
def execOpc8Resource00NotifyDefault (operation type : BitVec 1) (s : State) : Outcome :=
  readOperationCode .resource .notify operation type s

/-- `OPC8.resource.01.read` (R67). -/
def execOpc8Resource01Read (operation type : BitVec 1) (s : State) : Outcome :=
  readOperationCode .resource .read operation type s

/-- `OPC8.resource.02.write` (R67). -/
def execOpc8Resource02Write (operation type : BitVec 1) (s : State) : Outcome :=
  readOperationCode .resource .write operation type s

/-- `OPC8.resource.03.notify` (R67). -/
def execOpc8Resource03Notify (operation type : BitVec 1) (s : State) : Outcome :=
  readOperationCode .resource .notify operation type s

/-- `OPC8.resource.04.notify.default` (R149). -/
def execOpc8Resource04NotifyDefault (operation type : BitVec 1) (s : State) : Outcome :=
  readOperationCode .resource .notify operation type s

/-- `OPC8.resource.05.notify.default` (R149). -/
def execOpc8Resource05NotifyDefault (operation type : BitVec 1) (s : State) : Outcome :=
  readOperationCode .resource .notify operation type s

/-- `OPC8.resource.06.notify.default` (R149). -/
def execOpc8Resource06NotifyDefault (operation type : BitVec 1) (s : State) : Outcome :=
  readOperationCode .resource .notify operation type s

/-- `OPC8.resource.07.notify.default` (R149). -/
def execOpc8Resource07NotifyDefault (operation type : BitVec 1) (s : State) : Outcome :=
  readOperationCode .resource .notify operation type s

/-- `OPC8.resource.08.notify.default` (R149). -/
def execOpc8Resource08NotifyDefault (operation type : BitVec 1) (s : State) : Outcome :=
  readOperationCode .resource .notify operation type s

/-- `OPC8.resource.09.notify.default` (R149). -/
def execOpc8Resource09NotifyDefault (operation type : BitVec 1) (s : State) : Outcome :=
  readOperationCode .resource .notify operation type s

/-- `OPC8.resource.0A.notify.default` (R149). -/
def execOpc8Resource0aNotifyDefault (operation type : BitVec 1) (s : State) : Outcome :=
  readOperationCode .resource .notify operation type s

/-- `OPC8.resource.0B.notify.default` (R149). -/
def execOpc8Resource0bNotifyDefault (operation type : BitVec 1) (s : State) : Outcome :=
  readOperationCode .resource .notify operation type s

/-- `OPC8.resource.0C.notify.default` (R149). -/
def execOpc8Resource0cNotifyDefault (operation type : BitVec 1) (s : State) : Outcome :=
  readOperationCode .resource .notify operation type s

/-- `OPC8.resource.0D.notify.default` (R149). -/
def execOpc8Resource0dNotifyDefault (operation type : BitVec 1) (s : State) : Outcome :=
  readOperationCode .resource .notify operation type s

/-- `OPC8.resource.0E.notify.default` (R149). -/
def execOpc8Resource0eNotifyDefault (operation type : BitVec 1) (s : State) : Outcome :=
  readOperationCode .resource .notify operation type s

/-- `OPC8.resource.0F.notify.default` (R149). -/
def execOpc8Resource0fNotifyDefault (operation type : BitVec 1) (s : State) : Outcome :=
  readOperationCode .resource .notify operation type s

/-- `OPC8.resource.10.notify.default` (R149). -/
def execOpc8Resource10NotifyDefault (operation type : BitVec 1) (s : State) : Outcome :=
  readOperationCode .resource .notify operation type s

/-- `OPC8.resource.11.notify.default` (R149). -/
def execOpc8Resource11NotifyDefault (operation type : BitVec 1) (s : State) : Outcome :=
  readOperationCode .resource .notify operation type s

/-- `OPC8.resource.12.notify.default` (R149). -/
def execOpc8Resource12NotifyDefault (operation type : BitVec 1) (s : State) : Outcome :=
  readOperationCode .resource .notify operation type s

/-- `OPC8.resource.13.notify.default` (R149). -/
def execOpc8Resource13NotifyDefault (operation type : BitVec 1) (s : State) : Outcome :=
  readOperationCode .resource .notify operation type s

/-- `OPC8.resource.14.notify.default` (R149). -/
def execOpc8Resource14NotifyDefault (operation type : BitVec 1) (s : State) : Outcome :=
  readOperationCode .resource .notify operation type s

/-- `OPC8.resource.15.notify.default` (R149). -/
def execOpc8Resource15NotifyDefault (operation type : BitVec 1) (s : State) : Outcome :=
  readOperationCode .resource .notify operation type s

/-- `OPC8.resource.16.notify.default` (R149). -/
def execOpc8Resource16NotifyDefault (operation type : BitVec 1) (s : State) : Outcome :=
  readOperationCode .resource .notify operation type s

/-- `OPC8.resource.17.notify.default` (R149). -/
def execOpc8Resource17NotifyDefault (operation type : BitVec 1) (s : State) : Outcome :=
  readOperationCode .resource .notify operation type s

/-- `OPC8.resource.18.notify.default` (R149). -/
def execOpc8Resource18NotifyDefault (operation type : BitVec 1) (s : State) : Outcome :=
  readOperationCode .resource .notify operation type s

/-- `OPC8.resource.19.notify.default` (R149). -/
def execOpc8Resource19NotifyDefault (operation type : BitVec 1) (s : State) : Outcome :=
  readOperationCode .resource .notify operation type s

/-- `OPC8.resource.1A.notify.default` (R149). -/
def execOpc8Resource1aNotifyDefault (operation type : BitVec 1) (s : State) : Outcome :=
  readOperationCode .resource .notify operation type s

/-- `OPC8.resource.1B.notify.default` (R149). -/
def execOpc8Resource1bNotifyDefault (operation type : BitVec 1) (s : State) : Outcome :=
  readOperationCode .resource .notify operation type s

/-- `OPC8.resource.1C.notify.default` (R149). -/
def execOpc8Resource1cNotifyDefault (operation type : BitVec 1) (s : State) : Outcome :=
  readOperationCode .resource .notify operation type s

/-- `OPC8.resource.1D.notify.default` (R149). -/
def execOpc8Resource1dNotifyDefault (operation type : BitVec 1) (s : State) : Outcome :=
  readOperationCode .resource .notify operation type s

/-- `OPC8.resource.1E.notify.default` (R149). -/
def execOpc8Resource1eNotifyDefault (operation type : BitVec 1) (s : State) : Outcome :=
  readOperationCode .resource .notify operation type s

/-- `OPC8.resource.1F.notify.default` (R149). -/
def execOpc8Resource1fNotifyDefault (operation type : BitVec 1) (s : State) : Outcome :=
  readOperationCode .resource .notify operation type s

/-- `OPC8.system.00.reset` (R68). -/
def execOpc8System00Reset (operation type : BitVec 1) (s : State) : Outcome :=
  readOperationCode .system .reset operation type s

/-- `OPC8.system.01.recovery` (R68). -/
def execOpc8System01Recovery (operation type : BitVec 1) (s : State) : Outcome :=
  readOperationCode .system .recovery operation type s

/-- `OPC8.system.02.register.default` (R149). -/
def execOpc8System02RegisterDefault (operation type : BitVec 1) (s : State) : Outcome :=
  readOperationCode .system .register operation type s

/-- `OPC8.system.03.deregister` (R68). -/
def execOpc8System03Deregister (operation type : BitVec 1) (s : State) : Outcome :=
  readOperationCode .system .deregister operation type s

/-- `OPC8.system.04.enable` (R68). -/
def execOpc8System04Enable (operation type : BitVec 1) (s : State) : Outcome :=
  readOperationCode .system .enable operation type s

/-- `OPC8.system.05.disable` (R68). -/
def execOpc8System05Disable (operation type : BitVec 1) (s : State) : Outcome :=
  readOperationCode .system .disable operation type s

/-- `OPC8.system.06.label` (R68). -/
def execOpc8System06Label (operation type : BitVec 1) (s : State) : Outcome :=
  readOperationCode .system .label operation type s

/-- `OPC8.system.07.upgrade` (R68). -/
def execOpc8System07Upgrade (operation type : BitVec 1) (s : State) : Outcome :=
  readOperationCode .system .upgrade operation type s

/-- `OPC8.system.08.register.default` (R149). -/
def execOpc8System08RegisterDefault (operation type : BitVec 1) (s : State) : Outcome :=
  readOperationCode .system .register operation type s

/-- `OPC8.system.09.register.default` (R149). -/
def execOpc8System09RegisterDefault (operation type : BitVec 1) (s : State) : Outcome :=
  readOperationCode .system .register operation type s

/-- `OPC8.system.0A.register.default` (R149). -/
def execOpc8System0aRegisterDefault (operation type : BitVec 1) (s : State) : Outcome :=
  readOperationCode .system .register operation type s

/-- `OPC8.system.0B.register.default` (R149). -/
def execOpc8System0bRegisterDefault (operation type : BitVec 1) (s : State) : Outcome :=
  readOperationCode .system .register operation type s

/-- `OPC8.system.0C.register.default` (R149). -/
def execOpc8System0cRegisterDefault (operation type : BitVec 1) (s : State) : Outcome :=
  readOperationCode .system .register operation type s

/-- `OPC8.system.0D.register.default` (R149). -/
def execOpc8System0dRegisterDefault (operation type : BitVec 1) (s : State) : Outcome :=
  readOperationCode .system .register operation type s

/-- `OPC8.system.0E.register.default` (R149). -/
def execOpc8System0eRegisterDefault (operation type : BitVec 1) (s : State) : Outcome :=
  readOperationCode .system .register operation type s

/-- `OPC8.system.0F.register.default` (R149). -/
def execOpc8System0fRegisterDefault (operation type : BitVec 1) (s : State) : Outcome :=
  readOperationCode .system .register operation type s

/-- `OPC8.system.10.register.default` (R149). -/
def execOpc8System10RegisterDefault (operation type : BitVec 1) (s : State) : Outcome :=
  readOperationCode .system .register operation type s

/-- `OPC8.system.11.register.default` (R149). -/
def execOpc8System11RegisterDefault (operation type : BitVec 1) (s : State) : Outcome :=
  readOperationCode .system .register operation type s

/-- `OPC8.system.12.register.default` (R149). -/
def execOpc8System12RegisterDefault (operation type : BitVec 1) (s : State) : Outcome :=
  readOperationCode .system .register operation type s

/-- `OPC8.system.13.register.default` (R149). -/
def execOpc8System13RegisterDefault (operation type : BitVec 1) (s : State) : Outcome :=
  readOperationCode .system .register operation type s

/-- `OPC8.system.14.register.default` (R149). -/
def execOpc8System14RegisterDefault (operation type : BitVec 1) (s : State) : Outcome :=
  readOperationCode .system .register operation type s

/-- `OPC8.system.15.register.default` (R149). -/
def execOpc8System15RegisterDefault (operation type : BitVec 1) (s : State) : Outcome :=
  readOperationCode .system .register operation type s

/-- `OPC8.system.16.register.default` (R149). -/
def execOpc8System16RegisterDefault (operation type : BitVec 1) (s : State) : Outcome :=
  readOperationCode .system .register operation type s

/-- `OPC8.system.17.register.default` (R149). -/
def execOpc8System17RegisterDefault (operation type : BitVec 1) (s : State) : Outcome :=
  readOperationCode .system .register operation type s

/-- `OPC8.system.18.register.default` (R149). -/
def execOpc8System18RegisterDefault (operation type : BitVec 1) (s : State) : Outcome :=
  readOperationCode .system .register operation type s

/-- `OPC8.system.19.register.default` (R149). -/
def execOpc8System19RegisterDefault (operation type : BitVec 1) (s : State) : Outcome :=
  readOperationCode .system .register operation type s

/-- `OPC8.system.1A.register.default` (R149). -/
def execOpc8System1aRegisterDefault (operation type : BitVec 1) (s : State) : Outcome :=
  readOperationCode .system .register operation type s

/-- `OPC8.system.1B.register.default` (R149). -/
def execOpc8System1bRegisterDefault (operation type : BitVec 1) (s : State) : Outcome :=
  readOperationCode .system .register operation type s

/-- `OPC8.system.1C.register.default` (R149). -/
def execOpc8System1cRegisterDefault (operation type : BitVec 1) (s : State) : Outcome :=
  readOperationCode .system .register operation type s

/-- `OPC8.system.1D.deleteTopology` (R68). -/
def execOpc8System1dDeleteTopology (operation type : BitVec 1) (s : State) : Outcome :=
  readOperationCode .system .deleteTopology operation type s

/-- `OPC8.system.1E.offline` (R68). -/
def execOpc8System1eOffline (operation type : BitVec 1) (s : State) : Outcome :=
  readOperationCode .system .offline operation type s

/-- `OPC8.system.1F.online` (R68). -/
def execOpc8System1fOnline (operation type : BitVec 1) (s : State) : Outcome :=
  readOperationCode .system .online operation type s

end Sys2Proof.Machine
end

