-- ==== Sys2Proof/Machine/OperationSets.lean ====
section
/-! DEFINITION. The operation codes the parser tests as whole bytes (spec/30_encoding.md R69): the parser reads a code of the row and gives
the treatment of a payload that it selects (spec/45_parser.md R208, R220). The sets are constants (R291). -/

namespace Sys2Proof.Machine

open Sys2Proof

/-- A treatment row completes with the treatment it selects. -/
def selectTreatment (t : Treatment) (s : State) : Outcome := .next (deliver (.treatment t) s)

/-- `OPCSET.BARE_READ.01` (R215). -/
def execOpcsetBareReadCode01 (s : State) : Outcome := selectTreatment (.deviceLevel true) s

/-- `OPCSET.MODEB_N2.7F` (R225). -/
def execOpcsetModebN2Code7f (s : State) : Outcome := selectTreatment (.modeB 2 false) s

/-- `OPCSET.MODEB_N2.7E` (R225). -/
def execOpcsetModebN2Code7e (s : State) : Outcome := selectTreatment (.modeB 2 false) s

/-- `OPCSET.MODEB_N2.64` (R225). -/
def execOpcsetModebN2Code64 (s : State) : Outcome := selectTreatment (.modeB 2 false) s

/-- `OPCSET.MODEB_N2.65` (R225). -/
def execOpcsetModebN2Code65 (s : State) : Outcome := selectTreatment (.modeB 2 false) s

/-- `OPCSET.MODEB_N3.62` (R225). -/
def execOpcsetModebN3Code62 (s : State) : Outcome := selectTreatment (.modeB 3 false) s

/-- `OPCSET.MODEB_N3.63` (R225). -/
def execOpcsetModebN3Code63 (s : State) : Outcome := selectTreatment (.modeB 3 false) s

/-- `OPCSET.MODEB_N3_LASTBARE.41` (R227). -/
def execOpcsetModebN3LastbareCode41 (s : State) : Outcome := selectTreatment (.modeB 3 true) s

/-- `OPCSET.MODEB_N3_LASTBARE.C2` (R227). -/
def execOpcsetModebN3LastbareCodec2 (s : State) : Outcome := selectTreatment (.modeB 3 true) s

/-- `OPCSET.MODEA_FLATTEN.43` (R230). -/
def execOpcsetModeaFlattenCode43 (s : State) : Outcome := selectTreatment (.modeA true) s

/-- `OPCSET.MODEA_FLATTEN.C1` (R230). -/
def execOpcsetModeaFlattenCodec1 (s : State) : Outcome := selectTreatment (.modeA true) s

/-- `OPCSET.MODEA.default` (R220). -/
def execOpcsetModeaDefault (_operation : BitVec 1) (_low : BitVec 6) (s : State) : Outcome := selectTreatment (.modeA false) s

/-- `OPCSET.DEVICE.default` (R216). -/
def execOpcsetDeviceDefault (_operation : BitVec 1) (_low : BitVec 6) (s : State) : Outcome := selectTreatment (.deviceLevel false) s

end Sys2Proof.Machine
end

