-- ==== Sys2Proof/Machine/Crc.lean ====
section
/-! DEFINITION. The CRC16 engine and its three commands (spec/40_crc16.md). -/

namespace Sys2Proof.Machine

open Sys2Proof

/-- `Round(r)`: bit 15 before the shift decides the exclusive-or with the polynomial (R103). -/
def crcRound (r : Half) : Half := if r.getLsbD 15 then (r <<< 1) ^^^ crcPoly else r <<< 1

/-- `n` rounds. -/
def crcRounds : Nat → Half → Half
  | 0, r => r
  | n + 1, r => crcRounds n (crcRound r)

/-- The body of `CRC.BYTE`: the byte enters bits 15 to 8, then eight rounds (R102). -/
def crcStep (r : Half) (b : Byte) : Half := crcRounds 8 (r ^^^ (b.zeroExtend 16 <<< 8))

/-- The register after a byte sequence, from a start value (R104, R106 b). -/
def crcFrom (r : Half) (bs : Bytes) : Half := bs.foldl crcStep r

/-- `CRC.BLOCK bs`: from 0xFFFF, no final exclusive-or (R104). -/
def crcBlock (bs : Bytes) : Half := crcFrom crcInitValue bs

/-- `CRC.INIT` (R101). -/
def execCrcInit (_vt : BitVec 3) (s : State) : Outcome := .next (completeCrc crcInitValue s)

/-- `CRC.BYTE b` (R102). -/
def execCrcByte (_vt : BitVec 3) (s : State) : Outcome := .next (completeCrc (crcStep s.crc s.ports.byte) s)

/-- `CRC.BLOCK bs` (R104): the code is the result, and stands in `CRC`. -/
def execCrcBlock (_vt : BitVec 3) (s : State) : Outcome :=
  .next { completeCrc (crcBlock s.window) s with result := .crc (crcBlock s.window) }

end Sys2Proof.Machine
end

