-- ==== Sys2Proof/Machine/Vlp.lean ====
section
/-! DEFINITION. The variable-length prefix codec, its two commands and the group wrapper (spec/43_varlen_prefix.md). -/

namespace Sys2Proof.Machine

open Sys2Proof

/-- The class bias of a prefix of `k` bytes (spec/30_encoding.md R77). -/
def vlpBias : Nat → Nat
  | 2 => 16384
  | 3 => 8388608
  | 4 => 0xC0000000
  | _ => 0

/-- `VLP.ENC L`: the smallest class that holds the length (R160, R164). -/
def vlpEnc (len : Nat) : Except ErrKind Bytes :=
  if maxLen < len then .error .valueOutOfRange
  else if len ≤ 63 then .ok (beBytes 1 len)
  else if len ≤ 16383 then .ok (beBytes 2 (len + vlpBias 2))
  else if len ≤ 4194303 then .ok (beBytes 3 (len + vlpBias 3))
  else .ok (beBytes 4 (len + vlpBias 4))

/-- The size of the prefix a first byte begins (R162). -/
def vlpSize (b0 : Nat) : Nat := if b0 ≤ 63 then 1 else if b0 ≤ 127 then 2 else if b0 ≤ 191 then 3 else 4

/-- `VLP.DEC (w, pos)`: the length and the prefix size; over-long forms are accepted (R162, R163). -/
def vlpDec (w : Bytes) (pos : Nat) : Except ErrKind (Nat × Nat) :=
  match memRead w pos 1 with
  | .error k => .error k
  | .ok b0 =>
    match memRead w pos (vlpSize b0) with
    | .error k => .error k
    | .ok v => .ok (v - vlpBias (vlpSize b0), vlpSize b0)

/-- `Prefixed(bs)`: the length prefix and the bytes (spec/41_value_transcoders.md R130). -/
def prefixed (bs : Bytes) : Except ErrKind Bytes :=
  match vlpEnc bs.length with
  | .error k => .error k
  | .ok pre => .ok (pre ++ bs)

/-- `Wrap(gid, inner)`: the id, the prefix of the inner length, the inner bytes (R166). -/
def wrap (gid : Half) (inner : Bytes) : Except ErrKind Bytes :=
  match prefixed inner with
  | .error k => .error k
  | .ok bs => .ok (beBytes 2 gid.toNat ++ bs)

/-- `VLP.ENC L` (R160): the prefix goes to `OBUF`. -/
def execVlpEnc (_vt : BitVec 3) (s : State) : Outcome := finishEmit (vlpEnc s.ports.len) s

/-- `VLP.DEC (w, pos)` (R162): the length and the prefix size, and `POS` past the prefix. -/
def execVlpDec (_vt : BitVec 3) (s : State) : Outcome :=
  finishRead ((vlpDec s.window s.offset).map fun r => (.length r.1 r.2, r.2)) s.offset s

end Sys2Proof.Machine
end

