-- ==== Sys2Proof/Machine/Encoders.lean ====
section
/-! DEFINITION. The eight value encoders and their commands (spec/41_value_transcoders.md part 2). Each accepts one constructor
of `Value` and raises `TypeMismatch` for every other (R111); the type is checked before the range (spec/44_packager.md
R185). -/

namespace Sys2Proof.Machine

open Sys2Proof

/-- The number an encoder of `N` accepts, or `TypeMismatch`. -/
def numberOf : Value → Except ErrKind Int
  | .N z => .ok z
  | .B _ | .F _ | .X _ | .Y _ | .S _ | .J _ | .G _ _ | .Absent => .error .typeMismatch

/-- A number in a range, or `ValueOutOfRange`. -/
def inRange (lo hi z : Int) : Except ErrKind Int :=
  if z < lo ∨ hi < z then .error .valueOutOfRange else .ok z

/-- The bytes of a number an encoder of `N` takes in a range: `BE_n(z mod 2^(8n))` (R115, R116, R118). -/
def encodeNumber (n : Nat) (lo hi : Int) (v : Value) : Except ErrKind Bytes :=
  match numberOf v with
  | .error k => .error k
  | .ok z =>
    match inRange lo hi z with
    | .error k => .error k
    | .ok z => .ok (beBytes n (z % 2 ^ (8 * n)).toNat)

/-- `VAL.ENC.boolean` (R114): true is 1, false is 0. -/
def encBoolean : Value → Except ErrKind Bytes
  | .B b => .ok [if b then 1 else 0]
  | .N _ | .F _ | .X _ | .Y _ | .S _ | .J _ | .G _ _ | .Absent => .error .typeMismatch

/-- `VAL.ENC.enum` (R115): 0 to 255. -/
def encEnum (v : Value) : Except ErrKind Bytes := encodeNumber 1 0 255 v

/-- `VAL.ENC.integer` (R116): -65536 to 65535, in four bytes of two's complement. -/
def encInteger (v : Value) : Except ErrKind Bytes := encodeNumber 4 minInteger maxInteger v

/-- `VAL.ENC.float` (R117): the 32 bits unchanged. -/
def encFloat : Value → Except ErrKind Bytes
  | .F w => .ok (beBytes 4 w.toNat)
  | .B _ | .N _ | .X _ | .Y _ | .S _ | .J _ | .G _ _ | .Absent => .error .typeMismatch

/-- `VAL.ENC.exception` (R118): an unsigned 32-bit bitmap. -/
def encException (v : Value) : Except ErrKind Bytes := encodeNumber 4 0 (2 ^ 32 - 1) v

/-- `VAL.ENC.buffer` (R119). -/
def encBuffer : Value → Except ErrKind Bytes
  | .Y bs => prefixed bs
  | .B _ | .N _ | .F _ | .X _ | .S _ | .J _ | .G _ _ | .Absent => .error .typeMismatch

/-- `VAL.ENC.string` (R120): the bytes are not checked. -/
def encString : Value → Except ErrKind Bytes
  | .S bs => prefixed bs
  | .B _ | .N _ | .F _ | .X _ | .Y _ | .J _ | .G _ _ | .Absent => .error .typeMismatch

/-- `VAL.ENC.json` (R121): the text is not checked. -/
def encJson : Value → Except ErrKind Bytes
  | .J bs => prefixed bs
  | .B _ | .N _ | .F _ | .X _ | .Y _ | .S _ | .G _ _ | .Absent => .error .typeMismatch

/-- `VAL.ENC.<t>` by transcoder: the selector on encode (R112). -/
def valEnc : Tag → Value → Except ErrKind Bytes
  | .boolean => encBoolean
  | .enum => encEnum
  | .integer => encInteger
  | .float => encFloat
  | .buffer => encBuffer
  | .exception => encException
  | .string => encString
  | .json => encJson

/-- `VAL.ENC.boolean v` (R114). -/
def execValEncBoolean (s : State) : Outcome := finishEmit (encBoolean s.ports.value) s

/-- `VAL.ENC.enum v` (R115). -/
def execValEncEnum (s : State) : Outcome := finishEmit (encEnum s.ports.value) s

/-- `VAL.ENC.integer v` (R116). -/
def execValEncInteger (s : State) : Outcome := finishEmit (encInteger s.ports.value) s

/-- `VAL.ENC.float v` (R117). -/
def execValEncFloat (s : State) : Outcome := finishEmit (encFloat s.ports.value) s

/-- `VAL.ENC.buffer v` (R119). -/
def execValEncBuffer (s : State) : Outcome := finishEmit (encBuffer s.ports.value) s

/-- `VAL.ENC.exception v` (R118). -/
def execValEncException (s : State) : Outcome := finishEmit (encException s.ports.value) s

/-- `VAL.ENC.string v` (R120). -/
def execValEncString (s : State) : Outcome := finishEmit (encString s.ports.value) s

/-- `VAL.ENC.json v` (R121). -/
def execValEncJson (s : State) : Outcome := finishEmit (encJson s.ports.value) s

end Sys2Proof.Machine
end

