-- ==== Sys2Proof/Machine/Packager.lean ====
section
/-! DEFINITION. The packager (spec/44_packager.md): the seven steps of `PKG`, in the order of its checks (R185). It makes only
the checks its rules state; what it does not check is packed as given (R186). -/

namespace Sys2Proof.Machine

open Sys2Proof

/-- Step 1, the version byte (R173). -/
def versionByte (raw : Int) (id : Option Word) : Except ErrKind Byte :=
  if raw < 1 ∨ maxRawVersion < raw then .error .valueOutOfRange
  else .ok (BitVec.ofNat 8 (if id.isSome then raw.toNat + versionFlag else raw.toNat))

/-- Step 2, the message id bytes (R174). -/
def msgIdBytes : Option Word → Bytes
  | none => []
  | some i => beBytes 4 i.toNat

/-- Step 3, the operation byte: a supplied code wins over the descriptor (R175). -/
def opByte (p : Params) (req : Request) : Byte :=
  match req.opCode with
  | some c => c
  | none => opcEnc p req.operations

/-- Step 4, the response code: none for a request, whatever `code` says; required for a response (R176). -/
def respBytes (c : Byte) (code : Option Byte) : Except ErrKind Bytes :=
  if isResponse c then
    match code with
    | some rc => .ok [rc]
    | none => .error .missingField
  else .ok []

/-- Step 4, the arity validation, on top-level entries of READ requests only (R177). -/
def checkArity (c : Byte) (n : Nat) : Except ErrKind Unit :=
  if isDeviceReadReq c ∧ n ≠ 1 ∨ isSubDeviceReadReq c ∧ n < 1 then .error .arityError else .ok ()

/-- A plain function point: the id, and unless the request is bare, the bytes of the transcoder its `valueType` names (R180). -/
def encodePlain (fid : Half) (vt : Tag) (v : Value) (bare : Bool) : Except ErrKind Bytes :=
  if bare then .ok (beBytes 2 fid.toNat)
  else (valEnc vt v).map fun bs => beBytes 2 fid.toNat ++ bs

mutual
/-- One entry: a plain function point, or a group, whose members are encoded first and then wrapped (R179 to R181). -/
def encodeEntry (bare : Bool) : Entry → Except ErrKind Bytes
  | .plain fid vt v => encodePlain fid vt v bare
  | .group gid ps =>
    match encodeEntries bare ps with
    | .error k => .error k
    | .ok inner => wrap gid inner

/-- Step 5, the entries in list order (R179). -/
def encodeEntries (bare : Bool) : Entries → Except ErrKind Bytes
  | .nil => .ok []
  | .cons e es =>
    match encodeEntry bare e with
    | .error k => .error k
    | .ok bs =>
      match encodeEntries bare es with
      | .error k => .error k
      | .ok rest => .ok (bs ++ rest)
end

/-- Step 6, the top-level group (R182). -/
def wrapTop (g : Option Half) (payload : Bytes) : Except ErrKind Bytes :=
  match g with
  | none => .ok payload
  | some gid => wrap gid payload

/-- Step 7, the CRC appended, high byte first (R183). -/
def stampFrame (body : Bytes) : Bytes := body ++ beBytes 2 (crcBlock body).toNat

/-- The whole of `PKG`: the frame, or the first failing check (R172, R185). -/
def packageFrame (p : Params) (req : Request) : Except ErrKind Bytes := do
  let ver ← versionByte req.rawVersion req.id
  let idBytes := msgIdBytes req.id
  let c := opByte p req
  let rc ← respBytes c req.code
  let n := (entriesList req.params).length
  checkArity c n
  let inner ← encodeEntries (isBare c n) req.params
  let payload ← wrapTop req.groupId inner
  .ok (stampFrame ([ver] ++ idBytes ++ [c] ++ rc ++ payload))

/-- `PKG req` (R170, R172): the frame in `OBUF` and `STEP` at 7; on a fault `OBUF` is empty (R184). -/
def execPkg (_vt : BitVec 3) (s : State) : Outcome :=
  match packageFrame s.params s.ports.request with
  | .ok frame => .next { emit frame s with stepCtr := 7 }
  | .error k => .next { takeFault k none s with obuf := [] }

end Sys2Proof.Machine
end

