-- ==== Sys2Proof/Machine/Decoders.lean ====
section
/-! DEFINITION. The eight value decoders and their commands (spec/41_value_transcoders.md part 3). Each reads a window at an
offset and gives a value and the number of bytes consumed. -/

namespace Sys2Proof.Machine

open Sys2Proof

/-- The set bits of a 32-bit word, ascending, bit 0 the least significant (R126). -/
def setBits (w : Nat) : List Nat := (List.range 32).filter fun i => w.testBit i

/-- A length prefix and the bytes it counts, with the number of bytes consumed (R127). -/
def decodeRun (w : Bytes) (pos : Nat) : Except ErrKind (Bytes × Nat) :=
  match vlpDec w pos with
  | .error k => .error k
  | .ok (len, k) =>
    match memReadBytes w (pos + k) len with
    | .error e => .error e
    | .ok bs => .ok (bs, k + len)

/-- `VAL.DEC.boolean` (R122): a byte above 1 raises `ValueOutOfRange`. -/
def decBoolean (w : Bytes) (pos : Nat) : Except ErrKind (Value × Nat) :=
  match memRead w pos 1 with
  | .error k => .error k
  | .ok b => if 1 < b then .error .valueOutOfRange else .ok (.B (b == 1), 1)

/-- `VAL.DEC.enum` (R123). -/
def decEnum (w : Bytes) (pos : Nat) : Except ErrKind (Value × Nat) :=
  (memRead w pos 1).map fun (b : Nat) => (.N (Int.ofNat b), 1)

/-- `VAL.DEC.integer` (R124): no range check. -/
def decInteger (w : Bytes) (pos : Nat) : Except ErrKind (Value × Nat) :=
  (memRead w pos 4).map fun v => (.N (signed32 v), 4)

/-- `VAL.DEC.float` (R125): the 32 bits unchanged. -/
def decFloat (w : Bytes) (pos : Nat) : Except ErrKind (Value × Nat) :=
  (memRead w pos 4).map fun v => (.F (BitVec.ofNat 32 v), 4)

/-- `VAL.DEC.exception` (R126): the list of set bits. -/
def decException (w : Bytes) (pos : Nat) : Except ErrKind (Value × Nat) :=
  (memRead w pos 4).map fun v => (.X (setBits v), 4)

/-- `VAL.DEC.buffer` (R127). -/
def decBuffer (w : Bytes) (pos : Nat) : Except ErrKind (Value × Nat) :=
  (decodeRun w pos).map fun r => (.Y r.1, r.2)

/-- `VAL.DEC.string` (R128): the bytes are not checked. -/
def decString (w : Bytes) (pos : Nat) : Except ErrKind (Value × Nat) :=
  (decodeRun w pos).map fun r => (.S r.1, r.2)

/-- `VAL.DEC.json` (R129): text that `IsValidJson` rejects raises `JsonParseError`. -/
def decJson (w : Bytes) (pos : Nat) : Except ErrKind (Value × Nat) :=
  match decodeRun w pos with
  | .error k => .error k
  | .ok (bs, n) => if Config.isValidJson bs then .ok (.J bs, n) else .error .jsonParseError

/-- `VAL.DEC.<t>` by transcoder. -/
def valDec : Tag → Bytes → Nat → Except ErrKind (Value × Nat)
  | .boolean => decBoolean
  | .enum => decEnum
  | .integer => decInteger
  | .float => decFloat
  | .buffer => decBuffer
  | .exception => decException
  | .string => decString
  | .json => decJson

/-- The end of a `VAL.DEC` command: the value and the bytes consumed, and `POS` past them. -/
def finishDecode (r : Except ErrKind (Value × Nat)) (s : State) : Outcome :=
  finishRead (r.map fun x => (.decoded x.1 x.2, x.2)) s.offset s

/-- `VAL.DEC.boolean (w, pos)` (R122). -/
def execValDecBoolean (s : State) : Outcome := finishDecode (decBoolean s.window s.offset) s

/-- `VAL.DEC.enum (w, pos)` (R123). -/
def execValDecEnum (s : State) : Outcome := finishDecode (decEnum s.window s.offset) s

/-- `VAL.DEC.integer (w, pos)` (R124). -/
def execValDecInteger (s : State) : Outcome := finishDecode (decInteger s.window s.offset) s

/-- `VAL.DEC.float (w, pos)` (R125). -/
def execValDecFloat (s : State) : Outcome := finishDecode (decFloat s.window s.offset) s

/-- `VAL.DEC.buffer (w, pos)` (R127). -/
def execValDecBuffer (s : State) : Outcome := finishDecode (decBuffer s.window s.offset) s

/-- `VAL.DEC.exception (w, pos)` (R126). -/
def execValDecException (s : State) : Outcome := finishDecode (decException s.window s.offset) s

/-- `VAL.DEC.string (w, pos)` (R128). -/
def execValDecString (s : State) : Outcome := finishDecode (decString s.window s.offset) s

/-- `VAL.DEC.json (w, pos)` (R129). -/
def execValDecJson (s : State) : Outcome := finishDecode (decJson s.window s.offset) s

end Sys2Proof.Machine
end

