-- ==== Sys2Proof/Machine/Parser.lean ====
section
/-! DEFINITION. The parser (spec/45_parser.md): the nine steps of `PARSE`, the function-point list decoder, and the two
sub-device framing modes. -/

namespace Sys2Proof.Machine

open Sys2Proof

/-! ### The function-point list decoder -/

/-- Entering a group at this depth is allowed (R214). -/
def depthAllowed (p : Params) (d : Nat) : Bool :=
  match p.maxDepth with
  | none => true
  | some m => d ≤ m

/-- A function id read from a window (R212). -/
def readFid (w : Bytes) (pos : Nat) : Except ErrKind Half := (memRead w pos 2).map (BitVec.ofNat 16)

/-- `DecodeFP(w, pos, mode)`: one function point and the offset after it; `inner` decodes the window of a combine group one
level deeper (R212, R215). -/
def decodeFP (p : Params) (inner : Nat → Bytes → Except ErrKind (List FunctionPoint)) (depth : Nat) (bare : Bool)
    (w : Bytes) (pos : Nat) : Except ErrKind (FunctionPoint × Nat) := do
  let fid ← readFid w pos
  let f ← fidDec fid
  if f.resourceType = .combine then
    let (len, k) ← vlpDec w (pos + 2)
    let body ← memReadBytes w (pos + 2 + k) len
    if depthAllowed p (depth + 1) then
      let fps ← inner (depth + 1) body
      .ok (.mk fid f (.G (pointsOfList fps) false), pos + 2 + k + len)
    else .error .malformedFrame
  else if bare then .ok (.mk fid f .Absent, pos + 2)
  else
    let t ← valSel p fid
    let (v, k) ← valDec t w (pos + 2)
    .ok (.mk fid f v, pos + 2 + k)

/-- `DecodeFPList(w, mode)` from an offset (R211, R213). The first number is fuel: a window's length is always enough, since a
function point takes at least two bytes and a nested window is shorter (spec/70_reset_and_hazards.md R293). -/
def decodeFPList (p : Params) (bare : Bool) : Nat → Nat → Bytes → Nat → Except ErrKind (List FunctionPoint)
  | 0, _, w, pos => if pos < w.length then .error .malformedFrame else .ok []
  | fuel + 1, depth, w, pos =>
    if pos < w.length then do
      let (fp, next) ← decodeFP p (fun d body => decodeFPList p bare fuel d body 0) depth bare w pos
      let rest ← decodeFPList p bare fuel depth w next
      .ok (fp :: rest)
    else .ok []

/-- The list decoder over a whole window at the top level (R211, R216). -/
def decodeWindow (p : Params) (bare : Bool) (w : Bytes) : Except ErrKind (List FunctionPoint) :=
  decodeFPList p bare w.length 0 w 0

/-! ### Mode A -/

/-- Overwrite the `time` of the entry emitted last; there is none in an empty group (R222, R224). -/
def markLast (cur : List (Half × TimedPoint)) (v : Value) : Option (List (Half × TimedPoint)) :=
  match cur.getLast? with
  | none => none
  | some (fid, e) => some (cur.dropLast ++ [(fid, { e with time := .marked v })])

/-- The loop of `ModeA` over the flat list: the index, what is left, the groups closed so far and the open one. The entry
emitted last is always the last of the open group (R223). -/
def modeALoop (now : TimeStamp) : Nat → List FunctionPoint → List (List (Half × TimedPoint)) → List (Half × TimedPoint) →
    Except ErrKind (List (List (Half × TimedPoint)))
  | _, [], groups, cur => .ok (groups ++ [cur])
  | i, e :: es, groups, cur =>
    if pointId e = timeMarker then
      match markLast cur (pointValue e) with
      | none => .error .malformedFrame
      | some cur' => modeALoop now (i + 1) es groups cur'
    else if pointId e = groupMarker ∧ i ≠ 0 then
      modeALoop now (i + 1) es (groups ++ [cur]) [(pointId e, { point := e, time := .atDecode now })]
    else
      modeALoop now (i + 1) es groups (cur ++ [(pointId e, { point := e, time := .atDecode now })])

/-- Mode A: the flat list split into groups at the markers; an empty payload gives no group (R221 to R224). -/
def modeA (p : Params) (now : TimeStamp) (payload : Bytes) : Except ErrKind (List (List (Half × TimedPoint))) := do
  let flat ← decodeWindow p false payload
  if flat.isEmpty then .ok [] else modeALoop now 0 flat [] []

/-- A value rewritten by the flattening pass (R230). -/
def asDictionary : Value → Value
  | .G fps _ => .G fps true
  | .B b => .B b
  | .N z => .N z
  | .F w => .F w
  | .X is => .X is
  | .Y bs => .Y bs
  | .S bs => .S bs
  | .J bs => .J bs
  | .Absent => .Absent

/-- The flattening pass over the values that sit directly in a group (R230). -/
def flattenGroups (groups : List (List (Half × TimedPoint))) : List (List (Half × TimedPoint)) :=
  groups.map fun g => g.map fun e =>
    (e.1, { e.2 with point := pointWithValue e.2.point (asDictionary (pointValue e.2.point)) })

/-! ### Mode B -/

/-- `ModeBEntry`: a function id, checked, and a string, or nothing for the last entry of a group under two codes
(R226, R227). -/
def modeBEntry (w : Bytes) (pos : Nat) (bareLast : Bool) : Except ErrKind ((Half × Value) × Nat) := do
  let fid ← readFid w pos
  let _ ← fidDec fid
  if bareLast then .ok ((fid, .Absent), pos + 2)
  else
    let (v, k) ← decString w (pos + 2)
    .ok ((fid, v), pos + 2 + k)

/-- The loop of `ModeB`: fuel, the offset, the groups flushed so far and the open one. A remainder is refused (R228). -/
def modeBLoop (n : Nat) (lastIsBare : Bool) (w : Bytes) : Nat → Nat → List (List (Half × Value)) → List (Half × Value) →
    Except ErrKind (List (List (Half × Value)))
  | 0, pos, groups, cur => if pos < w.length ∨ cur ≠ [] then .error .malformedFrame else .ok groups
  | fuel + 1, pos, groups, cur =>
    if pos < w.length then do
      let (e, next) ← modeBEntry w pos (lastIsBare && cur.length + 1 = n)
      if cur.length + 1 = n then modeBLoop n lastIsBare w fuel next (groups ++ [cur ++ [e]]) []
      else modeBLoop n lastIsBare w fuel next groups (cur ++ [e])
    else if cur ≠ [] then .error .malformedFrame
    else .ok groups

/-- Mode B over a whole payload (R225 to R228). -/
def modeB (n : Nat) (lastIsBare : Bool) (payload : Bytes) : Except ErrKind (List (List (Half × Value))) :=
  modeBLoop n lastIsBare payload payload.length 0 [] []

/-! ### The nine steps -/

/-- Step 8, `DecodePayload` (R208, R216, R220). -/
def decodePayload (p : Params) (now : TimeStamp) (c : Byte) (payload : Bytes) : Except ErrKind Payload :=
  match treatmentOf c with
  | .deviceLevel bare => (decodeWindow p bare payload).map fun fps => .device (fps.map fun fp => (pointId fp, fp))
  | .modeB n lastIsBare => (modeB n lastIsBare payload).map .modeB
  | .modeA flatten => (modeA p now payload).map fun gs => .modeA (if flatten then flattenGroups gs else gs)

/-- Step 1, the shape check: the first byte of a frame that has one and may (R201). -/
def shapeCheck (frame : Bytes) : Except ErrKind Byte :=
  match frame with
  | [] => .error .malformedFrame
  | b0 :: _ => if b0 = 0x00 ∨ b0 = 0x80 then .error .malformedFrame else .ok b0

/-- Step 2: a message id follows the first byte (R202). -/
def hasMsgId (b0 : Byte) : Bool := versionFlag < b0.toNat

/-- The number of message id bytes, `m` (spec/20_memory.md R43). -/
def msgIdSize (b0 : Byte) : Nat := if hasMsgId b0 then 4 else 0

/-- Step 3: the length `n` meets a bound, or the frame is too short (R203). -/
def requireLength (n bound : Nat) : Except ErrKind Unit :=
  if n < bound then .error .malformedFrame else .ok ()

/-- Step 3: the base length, 8 bytes with a message id and 4 without (R203). -/
def baseLength (b0 : Byte) : Nat := if hasMsgId b0 then 8 else 4

/-- The message id, read once the base length is known to be there (R202). -/
def readMsgId (frame : Bytes) (b0 : Byte) : Except ErrKind (Option Word) :=
  if hasMsgId b0 then (memRead frame 1 4).map fun v => some (BitVec.ofNat 32 v) else .ok none

/-- Step 5: the CRC of all bytes but the last two against those two (R205). -/
def crcCheck (frame : Bytes) : Except ErrKind Unit := do
  let trailer ← memRead frame (frame.length - 2) 2
  if (crcBlock (frame.take (frame.length - 2))).toNat = trailer then .ok () else .error .integrityError

/-- Step 6: the response code, and how many bytes it takes (R206). -/
def respCode (frame : Bytes) (m : Nat) (c : Byte) : Except ErrKind (Option Byte × Nat) :=
  if isResponse c then do
    requireLength frame.length (2 + m + 1 + 2)
    let v ← memRead frame (2 + m) 1
    .ok (some (BitVec.ofNat 8 v), 1)
  else .ok (none, 0)

/-- Step 7: the payload, between the header and the CRC (R207). -/
def payloadOf (frame : Bytes) (m r : Nat) : Bytes := slice frame (2 + m + r) (frame.length - 2)

/-- What steps 1 to 5 have found. -/
structure Header where
  first : Byte
  msgId : Option Word
  opcode : Byte
deriving DecidableEq, Repr, Inhabited

/-- The number of message id bytes of a header. -/
def headerIdSize (h : Header) : Nat := msgIdSize h.first

/-- Steps 1 to 5 (R201 to R205). -/
def parseHeader (frame : Bytes) : Except ErrKind Header := do
  let b0 ← shapeCheck frame
  requireLength frame.length (baseLength b0)
  let c ← memRead frame (1 + msgIdSize b0) 1
  let opcode : Byte := BitVec.ofNat 8 c
  requireLength frame.length (if tightened opcode then baseLength b0 + 2 else baseLength b0)
  let msgId ← readMsgId frame b0
  crcCheck frame
  .ok { first := b0, msgId := msgId, opcode := opcode }

/-- Steps 6 to 8 (R206 to R208). -/
def parseBody (p : Params) (now : TimeStamp) (frame : Bytes) (h : Header) : Except ErrKind (Option Byte × Payload) := do
  let (code, r) ← respCode frame (headerIdSize h) h.opcode
  let params ← decodePayload p now h.opcode (payloadOf frame (headerIdSize h) r)
  .ok (code, params)

/-- The major version a first byte reports (R232). -/
def reportedVersion (b0 : Byte) : Nat := if hasMsgId b0 then b0.toNat - versionFlag else b0.toNat

/-- Step 9, the response record (R209). -/
def normalise (h : Header) (code : Option Byte) (params : Payload) : Response :=
  { version := reportedVersion h.first
    msgId := h.msgId
    opcode := h.opcode
    operations := opcDec h.opcode
    code := code
    params := params }

/-- The correlation fields of a fault in steps 6 to 8 (R210). -/
def correlationOf (h : Header) : Correlation := { msgId := h.msgId, opcode := h.opcode }

/-- The whole of `PARSE` (R200): the response, or the kind of the first failing check with its correlation fields. -/
def parseFrame (p : Params) (now : TimeStamp) (frame : Bytes) : Except (ErrKind × Option Correlation) Response :=
  match parseHeader frame with
  | .error k => .error (k, none)
  | .ok h =>
    match parseBody p now frame h with
    | .error k => .error (k, some (correlationOf h))
    | .ok (code, params) => .ok (normalise h code params)

/-- `PARSE (frame, NOW)` (R200). `STEP` has run through its nine steps and `DEPTH` is back at 0; `POS` is left unspecified
(log entry 9). -/
def execParse (_vt : BitVec 3) (s : State) : Outcome :=
  match parseFrame s.params s.ports.now s.window with
  | .ok r => .next { deliver (.response r) s with pos := Config.freePos s.draws, depth := 0, stepCtr := 9 }
  | .error (k, corr) => .next (takeFault k corr s)

end Sys2Proof.Machine
end

