-- ==== Sys2Proof/Machine/Prefixes.lean ====
section
/-! DEFINITION. The length prefix rows, the first-byte rows and the error kind rows. A prefix row is `VLP.DEC` on a prefix of its class
(spec/43_varlen_prefix.md R162); a first-byte row is steps 1 and 2 of `PARSE` on that byte (spec/45_parser.md R201, R202); an
error kind row is the fault of that kind (spec/60_exceptions.md R251, R264). -/

namespace Sys2Proof.Machine

open Sys2Proof

/-- A prefix row completes with its length and size, and `POS` past the prefix (R162). -/
def readPrefix (len size : Nat) (s : State) : Outcome := finishRead (.ok (.length len size, size)) 0 s

/-- A first byte that carries a version (R64, R202, R232). -/
def readVersion (hasId : Bool) (rawVersion : BitVec 7) (s : State) : Outcome :=
  .next (deliver (.version hasId rawVersion.toNat) s)

/-- A fault of a kind, with no correlation fields: only `PARSE` attaches them (R261). -/
def raise (kind : ErrKind) (s : State) : Outcome := .next (takeFault kind none s)

/-- `VLP.class1` (R162). -/
def execVlpClass1 (len : BitVec 6) (s : State) : Outcome := readPrefix len.toNat 1 s

/-- `VLP.class2` (R162). -/
def execVlpClass2 (len : BitVec 14) (s : State) : Outcome := readPrefix len.toNat 2 s

/-- `VLP.class3` (R162). -/
def execVlpClass3 (len : BitVec 22) (s : State) : Outcome := readPrefix len.toNat 3 s

/-- `VLP.class4` (R162). -/
def execVlpClass4 (len : BitVec 30) (s : State) : Outcome := readPrefix len.toNat 4 s

/-- `VER.illegal.00` (R201). -/
def execVerIllegal00 (s : State) : Outcome := raise .malformedFrame s

/-- `VER.illegal.80` (R201). -/
def execVerIllegal80 (s : State) : Outcome := raise .malformedFrame s

/-- `VER.noMsgId` (R202). -/
def execVerNoMsgId (rawVersion : BitVec 7) (s : State) : Outcome := readVersion false rawVersion s

/-- `VER.withMsgId` (R202). -/
def execVerWithMsgId (rawVersion : BitVec 7) (s : State) : Outcome := readVersion true rawVersion s

/-- `ERRKIND.1.MalformedFrame` (R252). -/
def execErrkind1MalformedFrame (s : State) : Outcome := raise .malformedFrame s

/-- `ERRKIND.2.IntegrityError` (R253). -/
def execErrkind2IntegrityError (s : State) : Outcome := raise .integrityError s

/-- `ERRKIND.3.UnknownDataType` (R254). -/
def execErrkind3UnknownDataType (s : State) : Outcome := raise .unknownDataType s

/-- `ERRKIND.4.ValueOutOfRange` (R255). -/
def execErrkind4ValueOutOfRange (s : State) : Outcome := raise .valueOutOfRange s

/-- `ERRKIND.5.TypeMismatch` (R256). -/
def execErrkind5TypeMismatch (s : State) : Outcome := raise .typeMismatch s

/-- `ERRKIND.6.ArityError` (R257). -/
def execErrkind6ArityError (s : State) : Outcome := raise .arityError s

/-- `ERRKIND.7.JsonParseError` (R258). -/
def execErrkind7JsonParseError (s : State) : Outcome := raise .jsonParseError s

/-- `ERRKIND.8.MissingField` (R259). -/
def execErrkind8MissingField (s : State) : Outcome := raise .missingField s

end Sys2Proof.Machine
end

