-- ==== Sys2Proof/Machine/Reserved.lean ====
section
/-! DEFINITION. The two reserved command codes, 0xE and 0xF: the block refuses the command, changes no state and produces no result
(spec/30_encoding.md R81, spec/93_implementation_defined.md U11). -/

namespace Sys2Proof.Machine

open Sys2Proof

/-- Command code 0xE: refused (R81). -/
def execCmdReservedE (_vt : BitVec 3) (_s : State) : Outcome := .refused (.reservedCommand 0xE)

/-- Command code 0xF: refused (R81). -/
def execCmdReservedF (_vt : BitVec 3) (_s : State) : Outcome := .refused (.reservedCommand 0xF)

end Sys2Proof.Machine
end

