-- ==== Sys2Proof/Machine/Dispatch.lean ====
section
/-! DEFINITION. The dispatch: one arm per constructor of `Instr`, each one direct call of its meaning. -/

namespace Sys2Proof.Machine

open Sys2Proof

def exec (i : Instr) (s : State) : Host.Outcome State Fault Refusal :=
  match i with
  | .crcInit vt => Sys2Proof.Machine.execCrcInit vt s
  | .crcByte vt => Sys2Proof.Machine.execCrcByte vt s
  | .crcBlock vt => Sys2Proof.Machine.execCrcBlock vt s
  | .valEncBoolean => Sys2Proof.Machine.execValEncBoolean s
  | .valEncEnum => Sys2Proof.Machine.execValEncEnum s
  | .valEncInteger => Sys2Proof.Machine.execValEncInteger s
  | .valEncFloat => Sys2Proof.Machine.execValEncFloat s
  | .valEncBuffer => Sys2Proof.Machine.execValEncBuffer s
  | .valEncException => Sys2Proof.Machine.execValEncException s
  | .valEncString => Sys2Proof.Machine.execValEncString s
  | .valEncJson => Sys2Proof.Machine.execValEncJson s
  | .valDecBoolean => Sys2Proof.Machine.execValDecBoolean s
  | .valDecEnum => Sys2Proof.Machine.execValDecEnum s
  | .valDecInteger => Sys2Proof.Machine.execValDecInteger s
  | .valDecFloat => Sys2Proof.Machine.execValDecFloat s
  | .valDecBuffer => Sys2Proof.Machine.execValDecBuffer s
  | .valDecException => Sys2Proof.Machine.execValDecException s
  | .valDecString => Sys2Proof.Machine.execValDecString s
  | .valDecJson => Sys2Proof.Machine.execValDecJson s
  | .valSel vt => Sys2Proof.Machine.execValSel vt s
  | .fidEnc vt => Sys2Proof.Machine.execFidEnc vt s
  | .fidDec vt => Sys2Proof.Machine.execFidDec vt s
  | .opcEnc vt => Sys2Proof.Machine.execOpcEnc vt s
  | .opcDec vt => Sys2Proof.Machine.execOpcDec vt s
  | .vlpEnc vt => Sys2Proof.Machine.execVlpEnc vt s
  | .vlpDec vt => Sys2Proof.Machine.execVlpDec vt s
  | .pkg vt => Sys2Proof.Machine.execPkg vt s
  | .parse vt => Sys2Proof.Machine.execParse vt s
  | .cmdReservedE vt => Sys2Proof.Machine.execCmdReservedE vt s
  | .cmdReservedF vt => Sys2Proof.Machine.execCmdReservedF vt s
  | .opc8Resource00NotifyDefault operation type => Sys2Proof.Machine.execOpc8Resource00NotifyDefault operation type s
  | .opc8Resource01Read operation type => Sys2Proof.Machine.execOpc8Resource01Read operation type s
  | .opc8Resource02Write operation type => Sys2Proof.Machine.execOpc8Resource02Write operation type s
  | .opc8Resource03Notify operation type => Sys2Proof.Machine.execOpc8Resource03Notify operation type s
  | .opc8Resource04NotifyDefault operation type => Sys2Proof.Machine.execOpc8Resource04NotifyDefault operation type s
  | .opc8Resource05NotifyDefault operation type => Sys2Proof.Machine.execOpc8Resource05NotifyDefault operation type s
  | .opc8Resource06NotifyDefault operation type => Sys2Proof.Machine.execOpc8Resource06NotifyDefault operation type s
  | .opc8Resource07NotifyDefault operation type => Sys2Proof.Machine.execOpc8Resource07NotifyDefault operation type s
  | .opc8Resource08NotifyDefault operation type => Sys2Proof.Machine.execOpc8Resource08NotifyDefault operation type s
  | .opc8Resource09NotifyDefault operation type => Sys2Proof.Machine.execOpc8Resource09NotifyDefault operation type s
  | .opc8Resource0aNotifyDefault operation type => Sys2Proof.Machine.execOpc8Resource0aNotifyDefault operation type s
  | .opc8Resource0bNotifyDefault operation type => Sys2Proof.Machine.execOpc8Resource0bNotifyDefault operation type s
  | .opc8Resource0cNotifyDefault operation type => Sys2Proof.Machine.execOpc8Resource0cNotifyDefault operation type s
  | .opc8Resource0dNotifyDefault operation type => Sys2Proof.Machine.execOpc8Resource0dNotifyDefault operation type s
  | .opc8Resource0eNotifyDefault operation type => Sys2Proof.Machine.execOpc8Resource0eNotifyDefault operation type s
  | .opc8Resource0fNotifyDefault operation type => Sys2Proof.Machine.execOpc8Resource0fNotifyDefault operation type s
  | .opc8Resource10NotifyDefault operation type => Sys2Proof.Machine.execOpc8Resource10NotifyDefault operation type s
  | .opc8Resource11NotifyDefault operation type => Sys2Proof.Machine.execOpc8Resource11NotifyDefault operation type s
  | .opc8Resource12NotifyDefault operation type => Sys2Proof.Machine.execOpc8Resource12NotifyDefault operation type s
  | .opc8Resource13NotifyDefault operation type => Sys2Proof.Machine.execOpc8Resource13NotifyDefault operation type s
  | .opc8Resource14NotifyDefault operation type => Sys2Proof.Machine.execOpc8Resource14NotifyDefault operation type s
  | .opc8Resource15NotifyDefault operation type => Sys2Proof.Machine.execOpc8Resource15NotifyDefault operation type s
  | .opc8Resource16NotifyDefault operation type => Sys2Proof.Machine.execOpc8Resource16NotifyDefault operation type s
  | .opc8Resource17NotifyDefault operation type => Sys2Proof.Machine.execOpc8Resource17NotifyDefault operation type s
  | .opc8Resource18NotifyDefault operation type => Sys2Proof.Machine.execOpc8Resource18NotifyDefault operation type s
  | .opc8Resource19NotifyDefault operation type => Sys2Proof.Machine.execOpc8Resource19NotifyDefault operation type s
  | .opc8Resource1aNotifyDefault operation type => Sys2Proof.Machine.execOpc8Resource1aNotifyDefault operation type s
  | .opc8Resource1bNotifyDefault operation type => Sys2Proof.Machine.execOpc8Resource1bNotifyDefault operation type s
  | .opc8Resource1cNotifyDefault operation type => Sys2Proof.Machine.execOpc8Resource1cNotifyDefault operation type s
  | .opc8Resource1dNotifyDefault operation type => Sys2Proof.Machine.execOpc8Resource1dNotifyDefault operation type s
  | .opc8Resource1eNotifyDefault operation type => Sys2Proof.Machine.execOpc8Resource1eNotifyDefault operation type s
  | .opc8Resource1fNotifyDefault operation type => Sys2Proof.Machine.execOpc8Resource1fNotifyDefault operation type s
  | .opc8System00Reset operation type => Sys2Proof.Machine.execOpc8System00Reset operation type s
  | .opc8System01Recovery operation type => Sys2Proof.Machine.execOpc8System01Recovery operation type s
  | .opc8System02RegisterDefault operation type => Sys2Proof.Machine.execOpc8System02RegisterDefault operation type s
  | .opc8System03Deregister operation type => Sys2Proof.Machine.execOpc8System03Deregister operation type s
  | .opc8System04Enable operation type => Sys2Proof.Machine.execOpc8System04Enable operation type s
  | .opc8System05Disable operation type => Sys2Proof.Machine.execOpc8System05Disable operation type s
  | .opc8System06Label operation type => Sys2Proof.Machine.execOpc8System06Label operation type s
  | .opc8System07Upgrade operation type => Sys2Proof.Machine.execOpc8System07Upgrade operation type s
  | .opc8System08RegisterDefault operation type => Sys2Proof.Machine.execOpc8System08RegisterDefault operation type s
  | .opc8System09RegisterDefault operation type => Sys2Proof.Machine.execOpc8System09RegisterDefault operation type s
  | .opc8System0aRegisterDefault operation type => Sys2Proof.Machine.execOpc8System0aRegisterDefault operation type s
  | .opc8System0bRegisterDefault operation type => Sys2Proof.Machine.execOpc8System0bRegisterDefault operation type s
  | .opc8System0cRegisterDefault operation type => Sys2Proof.Machine.execOpc8System0cRegisterDefault operation type s
  | .opc8System0dRegisterDefault operation type => Sys2Proof.Machine.execOpc8System0dRegisterDefault operation type s
  | .opc8System0eRegisterDefault operation type => Sys2Proof.Machine.execOpc8System0eRegisterDefault operation type s
  | .opc8System0fRegisterDefault operation type => Sys2Proof.Machine.execOpc8System0fRegisterDefault operation type s
  | .opc8System10RegisterDefault operation type => Sys2Proof.Machine.execOpc8System10RegisterDefault operation type s
  | .opc8System11RegisterDefault operation type => Sys2Proof.Machine.execOpc8System11RegisterDefault operation type s
  | .opc8System12RegisterDefault operation type => Sys2Proof.Machine.execOpc8System12RegisterDefault operation type s
  | .opc8System13RegisterDefault operation type => Sys2Proof.Machine.execOpc8System13RegisterDefault operation type s
  | .opc8System14RegisterDefault operation type => Sys2Proof.Machine.execOpc8System14RegisterDefault operation type s
  | .opc8System15RegisterDefault operation type => Sys2Proof.Machine.execOpc8System15RegisterDefault operation type s
  | .opc8System16RegisterDefault operation type => Sys2Proof.Machine.execOpc8System16RegisterDefault operation type s
  | .opc8System17RegisterDefault operation type => Sys2Proof.Machine.execOpc8System17RegisterDefault operation type s
  | .opc8System18RegisterDefault operation type => Sys2Proof.Machine.execOpc8System18RegisterDefault operation type s
  | .opc8System19RegisterDefault operation type => Sys2Proof.Machine.execOpc8System19RegisterDefault operation type s
  | .opc8System1aRegisterDefault operation type => Sys2Proof.Machine.execOpc8System1aRegisterDefault operation type s
  | .opc8System1bRegisterDefault operation type => Sys2Proof.Machine.execOpc8System1bRegisterDefault operation type s
  | .opc8System1cRegisterDefault operation type => Sys2Proof.Machine.execOpc8System1cRegisterDefault operation type s
  | .opc8System1dDeleteTopology operation type => Sys2Proof.Machine.execOpc8System1dDeleteTopology operation type s
  | .opc8System1eOffline operation type => Sys2Proof.Machine.execOpc8System1eOffline operation type s
  | .opc8System1fOnline operation type => Sys2Proof.Machine.execOpc8System1fOnline operation type s
  | .opcsetBareReadCode01 => Sys2Proof.Machine.execOpcsetBareReadCode01 s
  | .opcsetModebN2Code7f => Sys2Proof.Machine.execOpcsetModebN2Code7f s
  | .opcsetModebN2Code7e => Sys2Proof.Machine.execOpcsetModebN2Code7e s
  | .opcsetModebN2Code64 => Sys2Proof.Machine.execOpcsetModebN2Code64 s
  | .opcsetModebN2Code65 => Sys2Proof.Machine.execOpcsetModebN2Code65 s
  | .opcsetModebN3Code62 => Sys2Proof.Machine.execOpcsetModebN3Code62 s
  | .opcsetModebN3Code63 => Sys2Proof.Machine.execOpcsetModebN3Code63 s
  | .opcsetModebN3LastbareCode41 => Sys2Proof.Machine.execOpcsetModebN3LastbareCode41 s
  | .opcsetModebN3LastbareCodec2 => Sys2Proof.Machine.execOpcsetModebN3LastbareCodec2 s
  | .opcsetModeaFlattenCode43 => Sys2Proof.Machine.execOpcsetModeaFlattenCode43 s
  | .opcsetModeaFlattenCodec1 => Sys2Proof.Machine.execOpcsetModeaFlattenCodec1 s
  | .opcsetModeaDefault operation low => Sys2Proof.Machine.execOpcsetModeaDefault operation low s
  | .opcsetDeviceDefault operation low => Sys2Proof.Machine.execOpcsetDeviceDefault operation low s
  | .fid16DataType0Reserved functionType resourceId => Sys2Proof.Machine.execFid16DataType0Reserved functionType resourceId s
  | .fid16DataType1Boolean functionType resourceId => Sys2Proof.Machine.execFid16DataType1Boolean functionType resourceId s
  | .fid16DataType2Enum functionType resourceId => Sys2Proof.Machine.execFid16DataType2Enum functionType resourceId s
  | .fid16DataType3Integer functionType resourceId => Sys2Proof.Machine.execFid16DataType3Integer functionType resourceId s
  | .fid16DataType4Float functionType resourceId => Sys2Proof.Machine.execFid16DataType4Float functionType resourceId s
  | .fid16DataType5Buffer functionType resourceId => Sys2Proof.Machine.execFid16DataType5Buffer functionType resourceId s
  | .fid16DataType6Exception functionType resourceId => Sys2Proof.Machine.execFid16DataType6Exception functionType resourceId s
  | .fid16DataType7String functionType resourceId => Sys2Proof.Machine.execFid16DataType7String functionType resourceId s
  | .fid16FunctionType0Reserve dataType resourceId => Sys2Proof.Machine.execFid16FunctionType0Reserve dataType resourceId s
  | .fid16FunctionType1Custom dataType resourceId => Sys2Proof.Machine.execFid16FunctionType1Custom dataType resourceId s
  | .fid16FunctionType2Property dataType resourceId => Sys2Proof.Machine.execFid16FunctionType2Property dataType resourceId s
  | .fid16FunctionType3Event dataType resourceId => Sys2Proof.Machine.execFid16FunctionType3Event dataType resourceId s
  | .fid16ResourceTypeCommon000To3ff dataType functionType low => Sys2Proof.Machine.execFid16ResourceTypeCommon000To3ff dataType functionType low s
  | .fid16ResourceTypeCommon400To4ff dataType functionType low => Sys2Proof.Machine.execFid16ResourceTypeCommon400To4ff dataType functionType low s
  | .fid16ResourceTypeCombine500To5ff dataType functionType low => Sys2Proof.Machine.execFid16ResourceTypeCombine500To5ff dataType functionType low s
  | .fid16ResourceTypeCombine600To6ff dataType functionType low => Sys2Proof.Machine.execFid16ResourceTypeCombine600To6ff dataType functionType low s
  | .fid16ResourceTypeStatic700To7ff dataType functionType low => Sys2Proof.Machine.execFid16ResourceTypeStatic700To7ff dataType functionType low s
  | .fid16MarkerE801NewGroup => Sys2Proof.Machine.execFid16MarkerE801NewGroup s
  | .fid16MarkerE803Time => Sys2Proof.Machine.execFid16MarkerE803Time s
  | .vlpClass1 len => Sys2Proof.Machine.execVlpClass1 len s
  | .vlpClass2 len => Sys2Proof.Machine.execVlpClass2 len s
  | .vlpClass3 len => Sys2Proof.Machine.execVlpClass3 len s
  | .vlpClass4 len => Sys2Proof.Machine.execVlpClass4 len s
  | .verIllegal00 => Sys2Proof.Machine.execVerIllegal00 s
  | .verIllegal80 => Sys2Proof.Machine.execVerIllegal80 s
  | .verNoMsgId rawVersion => Sys2Proof.Machine.execVerNoMsgId rawVersion s
  | .verWithMsgId rawVersion => Sys2Proof.Machine.execVerWithMsgId rawVersion s
  | .errkind1MalformedFrame => Sys2Proof.Machine.execErrkind1MalformedFrame s
  | .errkind2IntegrityError => Sys2Proof.Machine.execErrkind2IntegrityError s
  | .errkind3UnknownDataType => Sys2Proof.Machine.execErrkind3UnknownDataType s
  | .errkind4ValueOutOfRange => Sys2Proof.Machine.execErrkind4ValueOutOfRange s
  | .errkind5TypeMismatch => Sys2Proof.Machine.execErrkind5TypeMismatch s
  | .errkind6ArityError => Sys2Proof.Machine.execErrkind6ArityError s
  | .errkind7JsonParseError => Sys2Proof.Machine.execErrkind7JsonParseError s
  | .errkind8MissingField => Sys2Proof.Machine.execErrkind8MissingField s

end Sys2Proof.Machine
end

