-- ==== Sys2Proof/Machine/Fetch.lean ====
section
/-! DEFINITION. How the host's next action reaches the block (spec/20_memory.md R52: nothing is fetched from memory;
spec/70_reset_and_hazards.md R295). For a command the configuration and the operands are put in place, the input bytes go to
`IBUF`, and the word is decoded; for a reset nothing is handed over. -/

namespace Sys2Proof.Machine

open Sys2Proof

/-- `IBUF` as the host fills it before a command (R29, R38). -/
def fillInput (src : InputSource) (s : State) : Memory :=
  match src with
  | .bytes bs => Memory.ofBytes bs
  | .fromObuf => Memory.ofBytes s.obuf.bytes
  | .held => s.ibuf

/-- The block with a command's configuration, operands and input in place, and that command taken from the host's list. -/
def accept (i : Issue) (rest : List HostAction) (s : State) : State :=
  { s with
    params := i.params.getD s.params
    ports := i.operands.getD s.ports
    ibuf := fillInput i.input s
    script := rest }

/-- The block reset, and that reset taken from the host's list (R280, R281). -/
def takeReset (rest : List HostAction) (s : State) : State := { resetBlock s with script := rest }

/-- The instruction the host's command word is (spec/30_encoding.md R60). -/
def fetch (i : Issue) : Except DecodeError Instr := decode i.format i.word

/-- A command that holds a word and nothing else: the configuration, the operands and the input are those already in place. -/
def bareIssue (format : Format) (word : Bytes) : Issue :=
  { params := none, format := format, word := word, operands := none, input := .held }

/-- The host's list with a word put where the next command's word stands, so that a command of that word comes next. -/
def placeWord (format : Format) (word : Bytes) : List HostAction → List HostAction
  | [] => [.command (bareIssue format word)]
  | .reset :: rest => .command (bareIssue format word) :: .reset :: rest
  | .command i :: rest => .command { i with format := format, word := word } :: rest

end Sys2Proof.Machine
end

