-- ==== Sys2Proof/Machine/Step.lean ====
section
/-! DEFINITION. One step: the host's next action, a command taken whole and executed whole (spec/00_scope.md R10), or a reset
(spec/70_reset_and_hazards.md R280, R295). With nothing to do the block is idle and nothing changes (log entry 2). -/

namespace Sys2Proof.Machine

open Sys2Proof

/-- One transaction of the block. -/
def step (s : State) : Host.Outcome State Fault Refusal :=
  match s.script with
  | [] => .next s
  | .reset :: rest => .next (takeReset rest s)
  | .command i :: rest =>
    match fetch i with
    | .error e => .fault (.illegalWord e)
    | .ok instr => exec instr (accept i rest s)

/-- The state with a table word as the host's next command word, in the format `tableFormat` presents it in. -/
def State.withFetchWord (s : State) (nbits w : Nat) : State :=
  { s with script := placeWord (tableFormat nbits w) (tableBytes nbits w) s.script }

end Sys2Proof.Machine
end

