-- ==== Sys2Proof/Safety.lean ====
section
/-! DEFINITION. The terms the statements are made in: what it is to complete and to fault, what a command leaves alone, the
invariant of the machine, and the requests whose frame the parser reads back as it was written. -/

namespace Sys2Proof.Machine

open Sys2Proof

/-! ### How a command ends -/

/-- The registers of the cursor group are as they were: `POS`, `DEPTH`, `STEP`. -/
def CursorKept (s t : State) : Prop := t.pos = s.pos ∧ t.depth = s.depth ∧ t.stepCtr = s.stepCtr

/-- Every byte of `OBUF` reads as it did. -/
def ObufKept (s t : State) : Prop := ∀ a, t.obuf.read a = s.obuf.read a

/-- What no command may write (spec/10_state.md R28, R29): the configuration, the operand ports, the host's list of actions,
and every byte of `IBUF`. -/
def HostSideKept (s t : State) : Prop :=
  t.params = s.params ∧ t.ports = s.ports ∧ t.script = s.script ∧ ∀ a, t.ibuf.read a = s.ibuf.read a

/-- `t` is `s` after a command that completed with a result record and moved no cursor. That `OBUF` and the cursors are left is
read from the spec by inference (log entry 8). -/
def DeliveredWith (s t : State) (r : Result) : Prop :=
  t.err.valid = false ∧ t.result = r ∧ CursorKept s t ∧ ObufKept s t ∧ HostSideKept s t

/-- `t` is `s` after a command that completed at an offset: a result record, and `POS` past the bytes it consumed. That `OBUF`,
`DEPTH` and `STEP` are left is read from the spec by inference (log entry 8). -/
def ReadWith (s t : State) (r : Result) (pos : Nat) : Prop :=
  t.err.valid = false ∧ t.result = r ∧ t.pos = pos ∧ t.depth = s.depth ∧ t.stepCtr = s.stepCtr ∧ ObufKept s t ∧
    HostSideKept s t

/-- `t` is `s` after a command that completed with exactly these bytes in `OBUF`. That the result record and the cursors are left
is read from the spec by inference (log entry 8). -/
def EmittedWith (s t : State) (bs : Bytes) : Prop :=
  t.err.valid = false ∧ t.obuf.bytes = bs ∧ t.obuf.wf = true ∧ t.result = s.result ∧ CursorKept s t ∧ HostSideKept s t

/-- The error record says this kind, with these correlation fields (spec/60_exceptions.md R251, R261). -/
def ErrorIs (e : ErrRecord) (kind : ErrKind) (corr : Option Correlation) : Prop :=
  e.valid = true ∧ e.kind = errKindCode kind ∧
    match corr with
    | none => e.hasOp = false ∧ e.hasMsgId = false
    | some c =>
      e.hasOp = true ∧ e.opcode = c.opcode ∧
        match c.msgId with
        | none => e.hasMsgId = false
        | some m => e.hasMsgId = true ∧ e.msgId = m

/-- `t` is `s` after a fault (R264): the error record, and what no command writes; the rest is unspecified. -/
def FaultedWith (s t : State) (kind : ErrKind) (corr : Option Correlation) : Prop :=
  ErrorIs t.err kind corr ∧ HostSideKept s t

/-- The bytes of a frame pass steps 1 to 5 of `PARSE`, read off the bytes alone (spec/45_parser.md R201 to R205, spec/20_memory.md
R43): a legal first byte, four message id bytes exactly where it says so, the operation code behind them, the least length, and
a trailer that is the CRC of the bytes before it. -/
def LegalFrame (frame : Bytes) (first : Byte) (id : Option Word) (c : Byte) : Prop :=
  first ≠ 0x00 ∧ first ≠ 0x80 ∧ (id.isSome = true ↔ 128 < first.toNat) ∧
    (match id with
      | none => ∃ rest, frame = first :: c :: rest
      | some i => ∃ rest, frame =
          first :: i.extractLsb' 24 8 :: i.extractLsb' 16 8 :: i.extractLsb' 8 8 :: i.extractLsb' 0 8 :: c :: rest) ∧
    (if 128 < first.toNat then 8 else 4) +
        (if c.toNat < 128 ∧ ¬(c.toNat / 64 % 2 = 0 ∧ c.toNat / 32 % 2 = 1) then 2 else 0) ≤ frame.length ∧
    ∃ (body : Bytes) (hi lo : Byte), frame = body ++ [hi, lo] ∧ crcBlock body = hi ++ lo

/-- The two rows whose meaning is a refusal. -/
def isReserved : Instr → Bool
  | .cmdReservedE _ | .cmdReservedF _ => true
  | _ => false

/-- The command `VAL.ENC.<t>` (R112). -/
def encoderOf : Tag → Instr
  | .boolean => .valEncBoolean
  | .enum => .valEncEnum
  | .integer => .valEncInteger
  | .float => .valEncFloat
  | .buffer => .valEncBuffer
  | .exception => .valEncException
  | .string => .valEncString
  | .json => .valEncJson

/-- The command `VAL.DEC.<t>`. -/
def decoderOf : Tag → Instr
  | .boolean => .valDecBoolean
  | .enum => .valDecEnum
  | .integer => .valDecInteger
  | .float => .valDecFloat
  | .buffer => .valDecBuffer
  | .exception => .valDecException
  | .string => .valDecString
  | .json => .valDecJson

/-- The commands that write `OBUF` when they complete (R29). -/
def writesObuf : Instr → Bool
  | .valEncBoolean | .valEncEnum | .valEncInteger | .valEncFloat | .valEncBuffer | .valEncException | .valEncString
  | .valEncJson | .vlpEnc _ | .pkg _ => true
  | _ => false

/-- The command whose meaning reads a register an earlier command left (R20). -/
def readsCrc : Instr → Bool
  | .crcByte _ => true
  | _ => false

/-- `CRC.BYTE` once per byte of a sequence, the host presenting each byte in turn (spec/70_reset_and_hazards.md R295). -/
def streamBytes : Bytes → State → Outcome
  | [], s => .next s
  | b :: bs, s =>
    match exec (.crcByte 0) { s with ports := { s.ports with byte := b } } with
    | .next t => streamBytes bs t
    | .fault r => .fault r
    | .refused r => .refused r

/-! ### The invariant -/

/-- The invariant of the machine: both byte spaces in canonical form, `STEP` in 1 to 9 (R24), a legal configuration (R9), and
an error record that names one of the eight kinds when it is valid (R251) and holds a message id only beside an operation
code (spec/45_parser.md R210); and every configuration the host is still to hand over is legal (R9, R283). -/
abbrev State.inv (s : State) : Prop :=
  s.ibuf.wf = true ∧ s.obuf.wf = true ∧ 1 ≤ s.stepCtr ∧ s.stepCtr ≤ 9 ∧ paramsWf s.params = true ∧
    (s.err.valid = true → 1 ≤ s.err.kind.toNat ∧ s.err.kind.toNat ≤ 8 ∧ (s.err.hasMsgId = true → s.err.hasOp = true)) ∧
    ∀ a ∈ s.script, ∀ p ∈ a.params, paramsWf p = true

/-! ### Nesting -/

mutual
/-- How deep combine groups nest in a value. -/
def valueDepth : Value → Nat
  | .G fps _ => pointsDepth fps + 1
  | .B _ | .N _ | .F _ | .X _ | .Y _ | .S _ | .J _ | .Absent => 0

/-- How deep combine groups nest in a function point. -/
def pointDepth : FunctionPoint → Nat
  | .mk _ _ v => valueDepth v

/-- How deep combine groups nest in the members of a group. -/
def pointsDepth : FunctionPoints → Nat
  | .nil => 0
  | .cons p ps => max (pointDepth p) (pointsDepth ps)
end

/-! ### Requests that round-trip -/

/-- The fields of a function id whose data type bits are not 000. -/
def fieldsOf (fid : Half) : FidRecord :=
  { dataType := fidDataTypeBits fid
    functionType := functionTypeOf (fidFunctionTypeBits fid)
    resourceId := fidResourceIdBits fid
    resourceType := classify (functionTypeOf (fidFunctionTypeBits fid)) (fidResourceIdBits fid) }

/-- A json value the decoder accepts, or a value that is not json. -/
def jsonAccepted : Value → Bool
  | .J bs => Config.isValidJson bs
  | _ => true

mutual
/-- An entry that avoids the cases of spec/70_reset_and_hazards.md R286: a plain entry's `valueType` is the transcoder its
function id selects and is not exception, its id is not a combine id; a group's id is one. -/
def faithfulEntry (p : Params) : Entry → Bool
  | .plain fid vt v =>
    fidDataTypeBits fid != 0 && (fieldsOf fid).resourceType != .combine && decide (valSel p fid = .ok vt) &&
      vt != .exception && jsonAccepted v
  | .group gid ps => fidDataTypeBits gid != 0 && (fieldsOf gid).resourceType == .combine && faithfulEntries p ps

/-- Entries all of which are faithful. -/
def faithfulEntries (p : Params) : Entries → Bool
  | .nil => true
  | .cons e es => faithfulEntry p e && faithfulEntries p es
end

mutual
/-- The function point a faithful entry is read back as. -/
def expectedPoint : Entry → FunctionPoint
  | .plain fid _ v => .mk fid (fieldsOf fid) v
  | .group gid ps => .mk gid (fieldsOf gid) (.G (expectedPoints ps) false)

/-- The members a faithful group is read back as, in the original order. -/
def expectedPoints : Entries → FunctionPoints
  | .nil => .nil
  | .cons e es => .cons (expectedPoint e) (expectedPoints es)
end

/-- An entry of a mode B payload as it stands on the wire: its id, the prefix its string has there (an over-long one too, R163),
and the string. -/
structure WireEntry where
  fid : Half
  lenBytes : Bytes
  text : Bytes
deriving DecidableEq, Repr

/-- The id has a data type, and the prefix is a prefix of the string's length. -/
def WireEntry.legal (e : WireEntry) : Prop :=
  fidDataTypeBits e.fid ≠ 0 ∧ vlpDec e.lenBytes 0 = .ok (e.text.length, e.lenBytes.length)

/-- The entry at this index is the id alone: the last of a group of `n`, where `lastIsBare` says so (spec/45_parser.md R227). -/
def isIdOnly (n : Nat) (lastIsBare : Bool) (i : Nat) : Bool := lastIsBare && (i + 1) % n == 0

/-- The wire form of mode B entries: every id with its prefix and string, or alone (R226, R227). The number is the index of
the first entry. -/
def modeBWire (n : Nat) (lastIsBare : Bool) : Nat → List WireEntry → Bytes
  | _, [] => []
  | i, e :: rest =>
    e.fid.extractLsb' 8 8 :: e.fid.extractLsb' 0 8 ::
      ((if isIdOnly n lastIsBare i then [] else e.lenBytes ++ e.text) ++ modeBWire n lastIsBare (i + 1) rest)

/-- The response a faithful device-level request is read back as (spec/45_parser.md R233). -/
def expectedResponse (p : Params) (req : Request) : Response :=
  { version := req.rawVersion.toNat
    msgId := req.id
    opcode := opByte p req
    operations := opcDec (opByte p req)
    code := if isResponse (opByte p req) then req.code else none
    params := .device ((pointsList (expectedPoints req.params)).map fun fp => (pointId fp, fp)) }

end Sys2Proof.Machine
end

