-- ==== Sys2Proof/Certificates/Slice0/Obligations.lean ====
section
/-! DEFINITION. The statements for the provers. Each docstring names the rules of spec/ it formalises, or says that what it
states is the model's own choice and names the log entry. -/

open Sys2Proof Sys2Proof.Machine

/-! ### Reset, steps, decoding -/

/-- R280, R281, R295: the state right after reset; and a reset by the host at any command boundary, whatever the block's state: a
step of its own that hands over nothing and ends in those values, with `ERR.valid` at 0, and leaves the rest of the host's
list. The configuration is not touched by a reset, which is read from R28 and R281 by inference (log entry 21). -/
def Obligations.ResetLeavesSpecifiedValues : Prop :=
  (State.reset.crc = 0xFFFF ∧ State.reset.pos = 0 ∧ State.reset.depth = 0 ∧ State.reset.stepCtr = 1 ∧
      State.reset.err.valid = false ∧ State.reset.ibuf.bytes = [] ∧ State.reset.obuf.bytes = []) ∧
    (∀ s : State,
      (resetBlock s).crc = 0xFFFF ∧ (resetBlock s).pos = 0 ∧ (resetBlock s).depth = 0 ∧ (resetBlock s).stepCtr = 1 ∧
        (resetBlock s).err.valid = false ∧ (resetBlock s).ibuf.bytes = [] ∧ (resetBlock s).obuf.bytes = [] ∧
        (resetBlock s).params = s.params) ∧
    ∀ (s : State) (rest : List HostAction),
      s.script = .reset :: rest → step s = .next { resetBlock s with script := rest }

/-- The invariant holds right after reset. The default configuration it speaks of is the spec's (R9); the values of the other
fields of `ERR` are the model's choice (log entry 5), and the invariant does not depend on them. -/
def Obligations.ResetMeetsInvariant : Prop := State.reset.inv

/-- Every step keeps the invariant: canonical byte spaces, `STEP` in 1 to 9 (R24), a legal configuration (R9), a legal
error record whenever it is valid (R251, U7), and legal configurations in what the host is still to issue. -/
def Obligations.StepKeepsInvariant : Prop :=
  ∀ s t : State, s.inv → step s = .next t → t.inv

/-- A step runs the host's next command: when its word decodes to an instruction, that instruction is executed with the
command's configuration, its operands at the ports, its input bytes in `IBUF`, and the rest of the host's list left. The
list and the ports are the model's form of the host interface (log entries 1 and 2). -/
def Obligations.StepRunsDecodedInstruction : Prop :=
  ∀ (s : State) (i : Issue) (rest : List HostAction) (instr : Instr),
    s.script = .command i :: rest → decode i.format i.word = .ok instr →
      step s = exec instr
        { s with
          params := match i.params with
            | some p => p
            | none => s.params
          ports := match i.operands with
            | some o => o
            | none => s.ports
          ibuf := match i.input with
            | .bytes bs => Memory.ofBytes bs
            | .fromObuf => Memory.ofBytes s.obuf.bytes
            | .held => s.ibuf
          script := rest }

/-- With nothing for the host to do nothing changes, and a word that is no word of its format stops the machine. Both are the model's
choice (log entries 2 and 6). -/
def Obligations.StepWithoutInstruction : Prop :=
  (∀ s : State, s.script = [] → step s = .next s) ∧
    ∀ (s : State) (i : Issue) (rest : List HostAction) (e : DecodeError),
      s.script = .command i :: rest → decode i.format i.word = .error e → step s = .fault (.illegalWord e)

/-- Words written out from the tables of spec/30_encoding.md decode to their instructions. That the byte 0x80 is refused as
a command word is the model's choice: the spec's command word has seven bits, and the model presents it in a byte whose bit
7 must be 0 (log entry 6). -/
def Obligations.SampleWordsDecode : Prop :=
  decode .cmdw [0b00000000] = .ok (.crcInit 0) ∧ decode .cmdw [0b00011010] = .ok .valEncInteger ∧
    decode .cmdw [0b00100111] = .ok .valDecJson ∧ decode .cmdw [0b01101101] = .ok (.parse 5) ∧
    decode .cmdw [0b10000000] = .error .notACommandWord ∧
    decode .opc8 [0b10100111] = .ok (.opc8System07Upgrade 1 0) ∧
    decode .opcset [0xC2] = .ok .opcsetModebN3LastbareCodec2 ∧
    decode .fidDataType [0xE8, 0x01] = .ok (.fid16DataType7String 1 1) ∧
    decode .fidMarker [0xE8, 0x03] = .ok .fid16MarkerE803Time ∧ decode .vlp [0x41, 0x2C] = .ok (.vlpClass2 300) ∧
    decode .ver [0x81] = .ok (.verWithMsgId 1) ∧ decode .errkind [0x08] = .ok .errkind8MissingField

/-- Decoding the encoding of a well-formed instruction gives it back, with every operand at every value. -/
def Obligations.DecodeOfEncodeIsIdentity : Prop :=
  ∀ i : Instr, i.wellFormed = true → decode i.format (encode i) = .ok i

/-- What the decoder accepts is well formed, belongs to the format it was read in, and encodes to the bytes it was read
from: no two words of a format are one instruction. -/
def Obligations.EncodeOfDecodeIsIdentity : Prop :=
  ∀ (fmt : Format) (bs : Bytes) (i : Instr),
    decode fmt bs = .ok i → i.wellFormed = true ∧ i.format = fmt ∧ encode i = bs

/-! ### Every command -/

/-- R250: every command ends, completed or faulted, in a next state. The two reserved rows are the refusals of R81. -/
def Obligations.EveryCommandEnds : Prop :=
  ∀ (i : Instr) (s : State), isReserved i = false → ∃ t, exec i s = .next t

/-- R28, R29: no command writes the configuration, the operands, the host's list or `IBUF`. -/
def Obligations.ConfigurationAndInputNeverWritten : Prop :=
  ∀ (i : Instr) (s t : State), exec i s = .next t → HostSideKept s t

/-- R29 names the commands whose result goes to `OBUF`; any other that completes leaves every byte of it. -/
def Obligations.OnlyOutputCommandsWriteObuf : Prop :=
  ∀ (i : Instr) (s t : State),
    writesObuf i = false → exec i s = .next t → t.err.valid = false → ObufKept s t

/-- R20: but for `CRC.BYTE`, a command is a function of its operands and of the configuration. From two states that agree on
those (and on the counter of free values, which is the model's own), it ends the same way: the same error record, the same
CRC, and each of `OBUF` and the result record either the same in both or left as it was in both. -/
def Obligations.CommandsIgnoreEarlierCommands : Prop :=
  ∀ (i : Instr) (s s' t : State),
    readsCrc i = false → s'.params = s.params → s'.ports = s.ports → s'.ibuf = s.ibuf → s'.draws = s.draws →
      exec i s = .next t →
        ∃ t', exec i s' = .next t' ∧ t'.err = t.err ∧ t'.crc = t.crc ∧
          (t'.obuf = t.obuf ∨ t.obuf = s.obuf ∧ t'.obuf = s'.obuf) ∧
          (t'.result = t.result ∨ t.result = s.result ∧ t'.result = s'.result)

/-- R81: the reserved command codes are refused, by name, in every state. -/
def Obligations.ReservedCodesAreRefused : Prop :=
  ∀ (vt : BitVec 3) (s : State),
    exec (.cmdReservedE vt) s = .refused (.reservedCommand 0xE) ∧
      exec (.cmdReservedF vt) s = .refused (.reservedCommand 0xF)

/-! ### The CRC16 engine -/

/-- R101. That `OBUF`, the result record and the cursors are left as they were is read from the spec by inference (log entry
8). -/
def Obligations.CrcInitLoadsInitialValue : Prop :=
  ∀ (vt : BitVec 3) (s : State),
    ∃ t, exec (.crcInit vt) s = .next t ∧ t.crc = 0xFFFF ∧ DeliveredWith s t s.result

/-- R103, with its corner cases. -/
def Obligations.CrcRoundShiftsAndReduces : Prop :=
  (∀ r : Half, crcRound r = if r.getLsbD 15 = true then (r <<< 1) ^^^ 0x1021 else r <<< 1) ∧
    crcRound 0x0000 = 0x0000 ∧ crcRound 0x8000 = 0x1021 ∧ crcRound 0xFFFF = 0xEFDF ∧ crcRound 0x7FFF = 0xFFFE

/-- R102: the byte enters bits 15 to 8, then eight rounds. That `OBUF`, the result record and the cursors are left as they
were is read from the spec by inference (log entry 8). -/
def Obligations.CrcByteRunsEightRounds : Prop :=
  ∀ (vt : BitVec 3) (s : State),
    ∃ t, exec (.crcByte vt) s = .next t ∧
      t.crc = crcRound (crcRound (crcRound (crcRound (crcRound (crcRound (crcRound (crcRound
        (s.crc ^^^ (BitVec.ofNat 16 s.ports.byte.toNat <<< 8))))))))) ∧
      (s.crc = 0xFFFF → s.ports.byte = 0x00 → t.crc = 0xE1F0) ∧
      (s.crc = 0xFFFF → s.ports.byte = 0x01 → t.crc = 0xF1D1) ∧ DeliveredWith s t s.result

/-- R104: `CRC.BLOCK` is `CRC.INIT`, then one `CRC.BYTE` per byte in index order, then a read of `CRC`; the empty sequence
gives 0xFFFF. That `OBUF` and the cursors are left as they were is read from the spec by inference (log entry 8). -/
def Obligations.CrcBlockIsInitThenBytes : Prop :=
  ∀ (vt : BitVec 3) (s : State),
    ∃ t u v, exec (.crcBlock vt) s = .next t ∧ exec (.crcInit 0) s = .next u ∧ streamBytes s.window u = .next v ∧
      DeliveredWith s t (.crc t.crc) ∧ t.crc = v.crc ∧ (s.window = [] → t.crc = 0xFFFF)

/-- R106 (c): the register after a sequence and its own code is 0. -/
def Obligations.CrcResidueIsZero : Prop :=
  ∀ bs : Bytes, crcBlock (bs ++ beBytes 2 (crcBlock bs).toNat) = 0

/-- Changing one byte of a sequence, in any of its bits, changes its code; a single-bit change, R106 (d), is the case of one
bit. -/
def Obligations.CrcDetectsAnyByteChange : Prop :=
  ∀ (before after : Bytes) (b b' : Byte),
    b ≠ b' → crcBlock (before ++ b :: after) ≠ crcBlock (before ++ b' :: after)

/-! ### The value encoders -/

/-- R115, R116, R118: the encoders of numbers. Each takes `N(z)` in its range, and writes one byte or four bytes big-endian,
in two's complement for an integer; outside the range, `ValueOutOfRange`; any other value, `TypeMismatch`. That the result
record and the cursors are left as they were is read from the spec by inference (log entry 8). -/
def Obligations.NumberEncodersWriteOrFault : Prop :=
  ∀ s : State,
    (∃ t, exec .valEncEnum s = .next t ∧
      match s.ports.value with
      | .N z =>
        if 0 ≤ z ∧ z ≤ 255 then ∃ b : Byte, (b.toNat : Int) = z ∧ EmittedWith s t [b]
        else FaultedWith s t .valueOutOfRange none
      | _ => FaultedWith s t .typeMismatch none) ∧
    (∃ t, exec .valEncInteger s = .next t ∧
      match s.ports.value with
      | .N z =>
        if -65536 ≤ z ∧ z ≤ 65535 then
          ∃ b3 b2 b1 b0 : Byte, (b3 ++ b2 ++ b1 ++ b0 : Word).toInt = z ∧ EmittedWith s t [b3, b2, b1, b0]
        else FaultedWith s t .valueOutOfRange none
      | _ => FaultedWith s t .typeMismatch none) ∧
    ∃ t, exec .valEncException s = .next t ∧
      match s.ports.value with
      | .N z =>
        if 0 ≤ z ∧ z < 4294967296 then
          ∃ b3 b2 b1 b0 : Byte, ((b3 ++ b2 ++ b1 ++ b0 : Word).toNat : Int) = z ∧ EmittedWith s t [b3, b2, b1, b0]
        else FaultedWith s t .valueOutOfRange none
      | _ => FaultedWith s t .typeMismatch none

/-- R114, R117: a boolean is one byte, 1 for true; a float is its 32 bits, big-endian and unchanged; any other value,
`TypeMismatch`. That the result record and the cursors are left as they were is read from the spec by inference (log entry
8). -/
def Obligations.BooleanAndFloatEncodersWriteOrFault : Prop :=
  ∀ s : State,
    (∃ t, exec .valEncBoolean s = .next t ∧
      match s.ports.value with
      | .B b => EmittedWith s t [if b = true then 0x01 else 0x00]
      | _ => FaultedWith s t .typeMismatch none) ∧
    ∃ t, exec .valEncFloat s = .next t ∧
      match s.ports.value with
      | .F w => ∃ b3 b2 b1 b0 : Byte, b3 ++ b2 ++ b1 ++ b0 = w ∧ EmittedWith s t [b3, b2, b1, b0]
      | _ => FaultedWith s t .typeMismatch none

/-- R119, R120, R121: buffer, string and json bytes behind the prefix of their length, unchecked; a length above 0x3FFFFFFF
raises `ValueOutOfRange`; any other value, `TypeMismatch`. That the result record and the cursors are left as they were is
read from the spec by inference (log entry 8). -/
def Obligations.RunEncodersWriteOrFault : Prop :=
  ∀ s : State,
    (∃ t, exec .valEncBuffer s = .next t ∧
      match s.ports.value with
      | .Y bs =>
        if bs.length ≤ 0x3FFFFFFF then ∃ p, vlpEnc bs.length = .ok p ∧ EmittedWith s t (p ++ bs)
        else FaultedWith s t .valueOutOfRange none
      | _ => FaultedWith s t .typeMismatch none) ∧
    (∃ t, exec .valEncString s = .next t ∧
      match s.ports.value with
      | .S bs =>
        if bs.length ≤ 0x3FFFFFFF then ∃ p, vlpEnc bs.length = .ok p ∧ EmittedWith s t (p ++ bs)
        else FaultedWith s t .valueOutOfRange none
      | _ => FaultedWith s t .typeMismatch none) ∧
    ∃ t, exec .valEncJson s = .next t ∧
      match s.ports.value with
      | .J bs =>
        if bs.length ≤ 0x3FFFFFFF then ∃ p, vlpEnc bs.length = .ok p ∧ EmittedWith s t (p ++ bs)
        else FaultedWith s t .valueOutOfRange none
      | _ => FaultedWith s t .typeMismatch none

/-! ### The value decoders -/

/-- R122, R123: the one-byte decoders at any offset. That `OBUF`, `DEPTH` and `STEP` are left as they were is read from the
spec by inference (log entry 8). -/
def Obligations.ByteDecodersReadOrFault : Prop :=
  ∀ s : State,
    (∃ t, exec .valDecBoolean s = .next t ∧
      match s.window.drop s.offset with
      | [] => FaultedWith s t .malformedFrame none
      | b :: _ =>
        if b = 0x00 then ReadWith s t (.decoded (.B false) 1) (s.offset + 1)
        else if b = 0x01 then ReadWith s t (.decoded (.B true) 1) (s.offset + 1)
        else FaultedWith s t .valueOutOfRange none) ∧
    ∃ t, exec .valDecEnum s = .next t ∧
      match s.window.drop s.offset with
      | [] => FaultedWith s t .malformedFrame none
      | b :: _ => ReadWith s t (.decoded (.N (b.toNat : Int)) 1) (s.offset + 1)

/-- R124, R125, R126: the four-byte decoders at any offset: two's complement without a range check, the 32 bits unchanged,
and the ascending list of set bits. That `OBUF`, `DEPTH` and `STEP` are left as they were is read from the spec by inference
(log entry 8). -/
def Obligations.WordDecodersReadOrFault : Prop :=
  ∀ s : State,
    (∃ t, exec .valDecInteger s = .next t ∧
      match s.window.drop s.offset with
      | b3 :: b2 :: b1 :: b0 :: _ =>
        ReadWith s t (.decoded (.N (b3 ++ b2 ++ b1 ++ b0 : Word).toInt) 4) (s.offset + 4)
      | _ => FaultedWith s t .malformedFrame none) ∧
    (∃ t, exec .valDecFloat s = .next t ∧
      match s.window.drop s.offset with
      | b3 :: b2 :: b1 :: b0 :: _ => ReadWith s t (.decoded (.F (b3 ++ b2 ++ b1 ++ b0)) 4) (s.offset + 4)
      | _ => FaultedWith s t .malformedFrame none) ∧
    ∃ t, exec .valDecException s = .next t ∧
      match s.window.drop s.offset with
      | b3 :: b2 :: b1 :: b0 :: _ =>
        ∃ is : List Nat, is.Pairwise (· < ·) ∧ (∀ i, i ∈ is ↔ (b3 ++ b2 ++ b1 ++ b0 : Word).getLsbD i = true) ∧
          ReadWith s t (.decoded (.X is) 4) (s.offset + 4)
      | _ => FaultedWith s t .malformedFrame none

/-- R127, R128, R129: the run decoders at any offset: the prefix, then as many bytes as it says. `IsValidJson` decides for
json. That `OBUF`, `DEPTH` and `STEP` are left as they were is read from the spec by inference (log entry 8). -/
def Obligations.RunDecodersReadOrFault : Prop :=
  ∀ s : State,
    ∃ tb ts tj, exec .valDecBuffer s = .next tb ∧ exec .valDecString s = .next ts ∧ exec .valDecJson s = .next tj ∧
      match vlpDec s.window s.offset with
      | .error k =>
        k = .malformedFrame ∧ FaultedWith s tb k none ∧ FaultedWith s ts k none ∧ FaultedWith s tj k none
      | .ok (len, k) =>
        if s.offset + k + len ≤ s.window.length then
          ReadWith s tb (.decoded (.Y ((s.window.drop (s.offset + k)).take len)) (k + len)) (s.offset + (k + len)) ∧
          ReadWith s ts (.decoded (.S ((s.window.drop (s.offset + k)).take len)) (k + len)) (s.offset + (k + len)) ∧
          if Config.isValidJson ((s.window.drop (s.offset + k)).take len) = true then
            ReadWith s tj (.decoded (.J ((s.window.drop (s.offset + k)).take len)) (k + len)) (s.offset + (k + len))
          else FaultedWith s tj .jsonParseError none
        else
          FaultedWith s tb .malformedFrame none ∧ FaultedWith s ts .malformedFrame none ∧
            FaultedWith s tj .malformedFrame none

/-- R112, R131: the encoder and the decoder of each transcoder, which `PKG` and `PARSE` use, are what the commands `VAL.ENC.<t>`
and `VAL.DEC.<t>` do; and what an encoder writes, the decoder of the same transcoder reads back, whatever bytes follow: an
exception as the list of its set bits, and json as `IsValidJson` decides. What the commands leave as it was is read from the
spec by inference (log entry 8). -/
def Obligations.ValuesRoundTrip : Prop :=
  (∀ (tag : Tag) (s : State),
    (∃ t, exec (encoderOf tag) s = .next t ∧
      match valEnc tag s.ports.value with
      | .ok bs => EmittedWith s t bs
      | .error k => FaultedWith s t k none) ∧
    ∃ t, exec (decoderOf tag) s = .next t ∧
      match valDec tag s.window s.offset with
      | .ok (v, k) => ReadWith s t (.decoded v k) (s.offset + k)
      | .error k => FaultedWith s t k none) ∧
    ∀ (tag : Tag) (v : Value) (bs rest : Bytes),
      valEnc tag v = .ok bs →
        match tag, v with
        | .exception, .N z => valDec .exception (bs ++ rest) 0 = .ok (.X (setBits z.toNat), bs.length)
        | .json, .J js =>
          valDec .json (bs ++ rest) 0 =
            if Config.isValidJson js = true then .ok (v, bs.length) else .error .jsonParseError
        | _, _ => valDec tag (bs ++ rest) 0 = .ok (v, bs.length)

/-! ### The selector and the bit-field codecs -/

/-- R113: the selector, for every configuration whose `DT_CODE` is a bijection (R9). That `OBUF` and the cursors are left as
they were is read from the spec by inference (log entry 8). -/
def Obligations.SelectorPicksTranscoder : Prop :=
  ∀ (vt : BitVec 3) (s : State),
    paramsWf s.params = true →
      ∃ t, exec (.valSel vt) s = .next t ∧
        if s.ports.fid.toNat / 8192 = 0 then FaultedWith s t .unknownDataType none
        else
          ∃ ty : DataType, (dataTypeCode s.params ty).toNat = s.ports.fid.toNat / 8192 ∧
            DeliveredWith s t
              (.selected (if ty = .string ∧ s.ports.fid.toNat / 2048 % 4 = 3 then .json else tagOf ty))

/-- R140 with R71: the packed id as a number; no check is made. That `OBUF` and the cursors are left as they were is read
from the spec by inference (log entry 8). -/
def Obligations.FidEncPacksFields : Prop :=
  ∀ (vt : BitVec 3) (s : State),
    ∃ t fid, exec (.fidEnc vt) s = .next t ∧ DeliveredWith s t (.functionId fid) ∧
      fid.toNat = s.ports.dataType.toNat * 8192 + s.ports.functionType.toNat * 2048 + s.ports.resourceId.toNat

/-- R141, R142: the fields and the class of a function id; data type 0 raises `UnknownDataType`. That `OBUF` and the cursors
are left as they were is read from the spec by inference (log entry 8). -/
def Obligations.FidDecSplitsAndClassifies : Prop :=
  ∀ (vt : BitVec 3) (s : State),
    ∃ t, exec (.fidDec vt) s = .next t ∧
      if s.ports.fid.toNat < 8192 then FaultedWith s t .unknownDataType none
      else
        ∃ r : FidRecord, DeliveredWith s t (.fields r) ∧ r.dataType.toNat = s.ports.fid.toNat / 8192 ∧
          r.resourceId.toNat = s.ports.fid.toNat % 2048 ∧
          (match s.ports.fid.toNat / 2048 % 4 with
            | 0 => r.functionType = .reserve
            | 1 => r.functionType = .custom
            | 2 => r.functionType = .property
            | _ => r.functionType = .event) ∧
          r.resourceType =
            if s.ports.fid.toNat / 2048 % 4 = 1 then .unclassified
            else if 0x500 ≤ s.ports.fid.toNat % 2048 ∧ s.ports.fid.toNat % 2048 ≤ 0x6FF then .combine
            else if 0x700 ≤ s.ports.fid.toNat % 2048 then .static
            else .common

/-- R143: the three fields tile the 16 bits. -/
def Obligations.FunctionIdRoundTrips : Prop :=
  (∀ (d : BitVec 3) (f : BitVec 2) (r : BitVec 11),
    d ≠ 0 → ∃ rec, fidDec (fidEnc d f r) = .ok rec ∧ rec.dataType = d ∧ rec.functionType = functionTypeOf f ∧
      rec.resourceId = r) ∧
    ∀ fid : Half, fidEnc (fidDataTypeBits fid) (fidFunctionTypeBits fid) (fidResourceIdBits fid) = fid

/-- R145, R146, R147: the operation code of a descriptor, as a number, with both method tables. That `OBUF` and the cursors
are left as they were is read from the spec by inference (log entry 8). -/
def Obligations.OpcEncPacksDescriptor : Prop :=
  ∀ (vt : BitVec 3) (s : State),
    ∃ t c, exec (.opcEnc vt) s = .next t ∧ DeliveredWith s t (.opcode c) ∧
      c.toNat =
        (if s.ports.opDesc.operation = .response then 128 else 0) + (if s.ports.opDesc.type = .subDevice then 64 else 0) +
        (if s.ports.opDesc.target = .system then 32 else 0) +
        (if s.ports.opDesc.target = .resource then
          match s.ports.opDesc.method with
          | .read => 1
          | .write => 2
          | _ => 3
        else
          match s.ports.opDesc.method with
          | .reset => 0
          | .recovery => 1
          | .deregister => 3
          | .enable => 4
          | .disable => 5
          | .label => 6
          | .upgrade => 7
          | .online => 0x1F
          | .offline => 0x1E
          | .deleteTopology => 0x1D
          | _ => s.params.sysRegisterCode.toNat)

/-- R148, R149: the descriptor of an operation code; every one of the 256 codes decodes. That `OBUF` and the cursors are
left as they were is read from the spec by inference (log entry 8). -/
def Obligations.OpcDecSplitsCode : Prop :=
  ∀ (vt : BitVec 3) (s : State),
    ∃ t d, exec (.opcDec vt) s = .next t ∧ DeliveredWith s t (.descriptor d) ∧
      d.operation = (if 128 ≤ s.ports.opcode.toNat then .response else .request) ∧
      d.type = (if s.ports.opcode.toNat / 64 % 2 = 1 then .subDevice else .device) ∧
      d.target = (if s.ports.opcode.toNat / 32 % 2 = 1 then .system else .resource) ∧
      d.method =
        (if s.ports.opcode.toNat / 32 % 2 = 0 then
          match s.ports.opcode.toNat % 32 with
          | 1 => .read
          | 2 => .write
          | _ => .notify
        else
          match s.ports.opcode.toNat % 32 with
          | 0 => .reset
          | 1 => .recovery
          | 3 => .deregister
          | 4 => .enable
          | 5 => .disable
          | 6 => .label
          | 7 => .upgrade
          | 0x1D => .deleteTopology
          | 0x1E => .offline
          | 0x1F => .online
          | _ => .register)

/-- R150: encoding a decoded code gives it back exactly for the canonical method codes, and decoding an encoded descriptor
gives it back when its method belongs to its target. For `register` the second half needs that `SYS_REGISTER_CODE` is a code
that decodes as `register`, which the spec's default is and R9 does not demand. -/
def Obligations.OperationCodeRoundTrips : Prop :=
  (∀ (p : Params) (c : Byte),
    opcEnc p (opcDec c) = c ↔
      if c.toNat / 32 % 2 = 0 then c.toNat % 32 ∈ [1, 2, 3]
      else c.toNat % 32 ∈ [0, 1, 3, 4, 5, 6, 7, 0x1D, 0x1E, 0x1F] ∨
        c.toNat % 32 = p.sysRegisterCode.toNat) ∧
    ∀ (p : Params) (d : OpDesc),
      (if d.target = .resource then d.method ∈ [.read, .write, .notify]
        else d.method ∉ [.read, .write, .notify] ∧
          (d.method = .register → sysMethodName p.sysRegisterCode = .register)) →
        opcDec (opcEnc p d) = d

/-! ### The length prefix -/

/-- R160, R164: the smallest class that holds the length, its bytes as a number, and the range fault. That the result record
and the cursors are left as they were is read from the spec by inference (log entry 8). -/
def Obligations.VlpEncPicksSmallestClass : Prop :=
  ∀ (vt : BitVec 3) (s : State),
    ∃ t, exec (.vlpEnc vt) s = .next t ∧
      if 0x3FFFFFFF < s.ports.len then FaultedWith s t .valueOutOfRange none
      else
        ∃ bs : Bytes, EmittedWith s t bs ∧
          if s.ports.len ≤ 63 then bs.length = 1 ∧ ubeNat bs = s.ports.len
          else if s.ports.len ≤ 16383 then bs.length = 2 ∧ ubeNat bs = s.ports.len + 16384
          else if s.ports.len ≤ 4194303 then bs.length = 3 ∧ ubeNat bs = s.ports.len + 8388608
          else bs.length = 4 ∧ ubeNat bs = s.ports.len + 0xC0000000

/-- R162: the length and the size of a prefix at any offset; the number read is never below the bias of its class, and the
length is below 2^(8k-2). A window that ends inside the prefix raises `MalformedFrame`. That `OBUF`, `DEPTH` and `STEP` are
left as they were is read from the spec by inference (log entry 8). -/
def Obligations.VlpDecReadsOrFaults : Prop :=
  ∀ (vt : BitVec 3) (s : State),
    ∃ t, exec (.vlpDec vt) s = .next t ∧
      match s.window.drop s.offset with
      | [] => FaultedWith s t .malformedFrame none
      | b0 :: rest =>
        ∃ k bias : Nat,
          (if b0.toNat ≤ 63 then k = 1 ∧ bias = 0
            else if b0.toNat ≤ 127 then k = 2 ∧ bias = 16384
            else if b0.toNat ≤ 191 then k = 3 ∧ bias = 8388608
            else k = 4 ∧ bias = 0xC0000000) ∧
          if s.offset + k ≤ s.window.length then
            ∃ len : Nat, len + bias = ubeNat ((b0 :: rest).take k) ∧ len < 2 ^ (8 * k - 2) ∧
              ReadWith s t (.length len k) (s.offset + k)
          else FaultedWith s t .malformedFrame none

/-- R165, R163: every length round-trips through the prefix `VLP.ENC` picks, and a prefix of any larger class decodes to its
length too, whatever bytes follow. -/
def Obligations.VlpRoundTrips : Prop :=
  ∀ (len : Nat) (rest : Bytes),
    (len ≤ 0x3FFFFFFF → ∃ p, vlpEnc len = .ok p ∧ vlpDec (p ++ rest) 0 = .ok (len, p.length)) ∧
      (len < 2 ^ 14 → vlpDec (beBytes 2 (len + 16384) ++ rest) 0 = .ok (len, 2)) ∧
      (len < 2 ^ 22 → vlpDec (beBytes 3 (len + 8388608) ++ rest) 0 = .ok (len, 3)) ∧
      (len < 2 ^ 30 → vlpDec (beBytes 4 (len + 0xC0000000) ++ rest) 0 = .ok (len, 4))

/-! ### The packager -/

/-- R166, R172 to R176, R179 to R183, R185, R187. The operation byte: the supplied code, whatever the descriptor beside it
says, and with none supplied what `OPC.ENC` gives for the descriptor. The payload: no entry is no byte; a plain entry is its
id and, unless the request is bare, the bytes of the transcoder its `valueType` names, with no other check (R186); a group
is its id, the prefix of its inner bytes and those bytes, and so is the top-level group; the entries follow one another in
list order, and the first fault from the left, depth first, is the fault. The frame of a request that passes every check:
the version byte, the message id where there is one, the operation code, the response code of a response, the payload, and
the CRC of all of it, high byte first; its length is 4 plus the parts that are present. That the result record is left as it
was is read from the spec by inference (log entry 8), and so are `STEP` at 7 and `POS` and `DEPTH` as they were (log entry
9). -/
def Obligations.PackagingWritesFrame : Prop :=
  ((∀ bare : Bool, encodeEntries bare .nil = .ok []) ∧
    (∀ (bare : Bool) (fid : Half) (tag : Tag) (v : Value) (es : Entries),
      encodeEntries bare (.cons (.plain fid tag v) es) =
        match (if bare = true then .ok [] else valEnc tag v) with
        | .error k => .error k
        | .ok value =>
          (encodeEntries bare es).map fun rest => fid.extractLsb' 8 8 :: fid.extractLsb' 0 8 :: (value ++ rest)) ∧
    (∀ (bare : Bool) (gid : Half) (ps es : Entries),
      encodeEntries bare (.cons (.group gid ps) es) =
        match encodeEntries bare ps with
        | .error k => .error k
        | .ok inner =>
          match wrapTop (some gid) inner with
          | .error k => .error k
          | .ok wrapped => (encodeEntries bare es).map fun rest => wrapped ++ rest) ∧
    (∀ inner : Bytes, wrapTop none inner = .ok inner) ∧
    ∀ (gid : Half) (inner : Bytes),
      if 0x3FFFFFFF < inner.length then wrapTop (some gid) inner = .error .valueOutOfRange
      else ∃ p, vlpEnc inner.length = .ok p ∧
        wrapTop (some gid) inner = .ok (gid.extractLsb' 8 8 :: gid.extractLsb' 0 8 :: (p ++ inner))) ∧
  (∀ (p : Params) (req : Request),
    match req.opCode with
    | some c => opByte p req = c
    | none =>
      ∀ (vt : BitVec 3) (s : State),
        s.params = p → s.ports.opDesc = req.operations →
          ∃ t, exec (.opcEnc vt) s = .next t ∧ t.err.valid = false ∧ t.result = .opcode (opByte p req)) ∧
    ∀ (vt : BitVec 3) (s : State) (req : Request) (inner payload : Bytes),
      s.ports.request = req → 1 ≤ req.rawVersion → req.rawVersion ≤ 99 →
      (isResponse (opByte s.params req) = true → req.code.isSome = true) →
      (opByte s.params req = 0x01 → (entriesList req.params).length = 1) →
      (opByte s.params req = 0x41 → 1 ≤ (entriesList req.params).length) →
      encodeEntries (decide (opByte s.params req = 0x01)) req.params = .ok inner →
      wrapTop req.groupId inner = .ok payload →
        ∃ (t : State) (ver : Byte) (idBytes rc body : Bytes) (hi lo : Byte),
          exec (.pkg vt) s = .next t ∧ t.err.valid = false ∧ t.stepCtr = 7 ∧ t.pos = s.pos ∧ t.depth = s.depth ∧
            t.result = s.result ∧ HostSideKept s t ∧ t.obuf.wf = true ∧
            (ver.toNat : Int) = (if req.id.isSome = true then req.rawVersion + 128 else req.rawVersion) ∧
            (match req.id with
              | none => idBytes = []
              | some i => ∃ b3 b2 b1 b0 : Byte, idBytes = [b3, b2, b1, b0] ∧ b3 ++ b2 ++ b1 ++ b0 = i) ∧
            (match isResponse (opByte s.params req), req.code with
              | true, some c => rc = [c]
              | _, _ => rc = []) ∧
            body = ver :: idBytes ++ opByte s.params req :: rc ++ payload ∧
            hi ++ lo = crcBlock body ∧ t.obuf.bytes = body ++ [hi, lo] ∧
            t.obuf.bytes.length =
              4 + (if req.id.isSome = true then 4 else 0) + (if isResponse (opByte s.params req) = true then 1 else 0) +
                payload.length

/-- R173, R176, R177, R184, R185: the checks of `PKG` in their order (the version, the missing response code, the arity, the
entries, the top-level group), the first failing one naming the kind; whatever the fault, no correlation field is set and
`OBUF` is empty. That `OBUF` is empty after the fault is R184, which the model prefers to U8 (log entry 10). What the
entries make of a fault inside them is in `PackagingWritesFrame`. -/
def Obligations.PackagingChecksInOrder : Prop :=
  ∀ (vt : BitVec 3) (s : State),
    ∃ t, exec (.pkg vt) s = .next t ∧
      (t.err.valid = true → t.err.hasOp = false ∧ t.err.hasMsgId = false ∧ ∀ a, t.obuf.read a = none) ∧
      (if s.ports.request.rawVersion < 1 ∨ 99 < s.ports.request.rawVersion then FaultedWith s t .valueOutOfRange none
        else if isResponse (opByte s.params s.ports.request) = true ∧ s.ports.request.code = none then
          FaultedWith s t .missingField none
        else if opByte s.params s.ports.request = 0x01 ∧ (entriesList s.ports.request.params).length ≠ 1 ∨
            opByte s.params s.ports.request = 0x41 ∧ (entriesList s.ports.request.params).length = 0 then
          FaultedWith s t .arityError none
        else
          match encodeEntries (decide (opByte s.params s.ports.request = 0x01)) s.ports.request.params with
          | .error k => FaultedWith s t k none
          | .ok inner =>
            match wrapTop s.ports.request.groupId inner with
            | .error k => FaultedWith s t k none
            | .ok _ => t.err.valid = false)

/-- R84: a top-level group id packs as one group entry, for codes whose arity is not checked; a fault is the same fault. -/
def Obligations.TopGroupIsGroupEntry : Prop :=
  ∀ (p : Params) (req : Request) (gid : Half),
    opByte p req ≠ 0x01 → opByte p req ≠ 0x41 →
      packageFrame p { req with groupId := some gid } =
        packageFrame p { req with groupId := none, params := .cons (.group gid req.params) .nil }

/-! ### The parser -/

/-- R200 to R210: a frame put together as R63 says, from a legal first byte, four id bytes exactly when it says so, an
operation code, a response code exactly for a response, a payload (of at least two bytes where R203 asks for them) and the
CRC of all of it. `PARSE` reaches step 8 with exactly those parts: it completes with the response record of what the payload
decodes to, or takes the payload's fault with the message id and the operation code attached. That `OBUF` is left as it was
is read from the spec by inference (log entry 8), and so are `STEP` at 9 and `DEPTH` at 0 (log entry 9). -/
def Obligations.ParsingOfStampedFrame : Prop :=
  ∀ (vt : BitVec 3) (s : State) (first c : Byte) (id : Option Word) (code : Option Byte) (idBytes rc payload : Bytes),
    first ≠ 0x00 → first ≠ 0x80 →
    (id.isSome = true ↔ 128 < first.toNat) →
    (match id with
      | none => idBytes = []
      | some i => idBytes = [i.extractLsb' 24 8, i.extractLsb' 16 8, i.extractLsb' 8 8, i.extractLsb' 0 8]) →
    (code.isSome = true ↔ isResponse c = true) → rc = code.toList →
    (tightened c = true → 2 ≤ payload.length) →
    s.window = stampFrame (first :: idBytes ++ c :: rc ++ payload) →
      ∃ t, exec (.parse vt) s = .next t ∧
        match decodePayload s.params s.ports.now c payload with
        | .ok params =>
          t.err.valid = false ∧ t.stepCtr = 9 ∧ t.depth = 0 ∧ ObufKept s t ∧ HostSideKept s t ∧
            t.result = .response
              { version := if 128 < first.toNat then first.toNat - 128 else first.toNat
                msgId := id, opcode := c, operations := opcDec c, code := code, params := params }
        | .error k => FaultedWith s t k (some { msgId := id, opcode := c })

/-- R201, R203: an operation code is tightened exactly when it is a request and not a system command on a device; and a
frame that is empty, begins with 0x00 or 0x80, or is shorter than its minimum raises `MalformedFrame` with no field
attached. -/
def Obligations.ParsingRefusesBadShape : Prop :=
  (∀ c : Byte, tightened c = true ↔ c.toNat < 128 ∧ ¬(c.toNat / 64 % 2 = 0 ∧ c.toNat / 32 % 2 = 1)) ∧
    ∀ (vt : BitVec 3) (s : State),
      (match s.window with
        | [] => True
        | b0 :: rest =>
          b0 = 0x00 ∨ b0 = 0x80 ∨ (if 128 < b0.toNat then rest.length + 1 < 8 else rest.length + 1 < 4) ∨
            ∃ c : Byte, (b0 :: rest)[if 128 < b0.toNat then 5 else 1]? = some c ∧ tightened c = true ∧
              (if 128 < b0.toNat then rest.length + 1 < 10 else rest.length + 1 < 6)) →
        ∃ t, exec (.parse vt) s = .next t ∧ FaultedWith s t .malformedFrame none

/-- R205, R262: a frame of legal shape whose CRC does not match raises `IntegrityError` with no field attached, whatever its
payload is. -/
def Obligations.ParsingRefusesWrongCrc : Prop :=
  ∀ (vt : BitVec 3) (s : State) (b0 c hi lo : Byte) (rest body : Bytes),
    b0 ≠ 0x00 → b0 ≠ 0x80 → s.window = b0 :: rest → s.window = body ++ [hi, lo] →
    s.window[if 128 < b0.toNat then 5 else 1]? = some c →
    (if 128 < b0.toNat then 8 else 4) + (if tightened c = true then 2 else 0) ≤ s.window.length →
    crcBlock body ≠ hi ++ lo →
      ∃ t, exec (.parse vt) s = .next t ∧ FaultedWith s t .integrityError none

/-- R234: in a frame that `PARSE` accepts, changing one byte of the payload, in one bit or in several, makes `PARSE` fail with
`IntegrityError`. -/
def Obligations.PayloadCorruptionIsDetected : Prop :=
  ∀ (vt : BitVec 3) (s t : State) (b0 c b : Byte) (rest : Bytes) (i : Nat),
    exec (.parse vt) s = .next t → t.err.valid = false → s.window = b0 :: rest →
    s.window[if 128 < b0.toNat then 5 else 1]? = some c →
    (if 128 < b0.toNat then 6 else 2) + (if isResponse c = true then 1 else 0) ≤ i → i + 2 < s.window.length →
    s.window[i]? ≠ some b →
      ∃ u, exec (.parse vt) { s with ibuf := Memory.ofBytes (s.window.set i b) } = .next u ∧
        FaultedWith { s with ibuf := Memory.ofBytes (s.window.set i b) } u .integrityError none

/-- R210: which faults of `PARSE` carry the correlation fields. A frame whose bytes pass steps 1 to 5 (`LegalFrame`) faults, if it
faults, at step 6 or later: the record holds the operation code at offset 1, or 5 behind a message id, and the message id
that the four bytes after the first hold, where the frame has one. Any other frame faults in steps 1 to 5, and the record says
neither field. Steps 1 to 5 are `parseHeader` in the model. -/
def Obligations.ParseFaultsCarryCorrelation : Prop :=
  ∀ (vt : BitVec 3) (s t : State),
    exec (.parse vt) s = .next t → t.err.valid = true →
      (∀ (first c : Byte) (id : Option Word),
        LegalFrame s.window first id c →
          parseHeader s.window = .ok { first := first, msgId := id, opcode := c } ∧
            ∃ k, ErrorIs t.err k (some { msgId := id, opcode := c })) ∧
        ((∀ (first c : Byte) (id : Option Word), ¬LegalFrame s.window first id c) →
          ∃ k, parseHeader s.window = .error k ∧ (k = .malformedFrame ∨ k = .integrityError) ∧ ErrorIs t.err k none)

/-- R235: `PARSE` never raises `TypeMismatch`, `ArityError` or `MissingField`. -/
def Obligations.ParseNeverRaisesEncodeKinds : Prop :=
  ∀ (vt : BitVec 3) (s t : State),
    exec (.parse vt) s = .next t → t.err.valid = true → t.err.kind ∉ [(5 : BitVec 4), 6, 8]

/-- R206: a response of exactly the base length, with a matching CRC, has no room for its response code and raises
`MalformedFrame` at step 6, with the operation code attached, and the message id where the frame has one. Both lengths: four
bytes without a message id, eight with one. -/
def Obligations.ResponseWithoutCodeIsRefused : Prop :=
  ∀ (vt : BitVec 3) (s : State) (first c : Byte) (id : Option Word) (idBytes : Bytes),
    first ≠ 0x00 → first ≠ 0x80 →
    (id.isSome = true ↔ 128 < first.toNat) →
    (match id with
      | none => idBytes = []
      | some i => idBytes = [i.extractLsb' 24 8, i.extractLsb' 16 8, i.extractLsb' 8 8, i.extractLsb' 0 8]) →
    isResponse c = true → s.window = stampFrame (first :: idBytes ++ [c]) →
      ∃ t, exec (.parse vt) s = .next t ∧ FaultedWith s t .malformedFrame (some { msgId := id, opcode := c })

/-- R211 to R215, R217, R218: the function-point list, read off the wire, under every `MAX_DEPTH`. No byte is no function
point; a byte left over is a truncated id; data type bits 000 raise `UnknownDataType` before anything else is read. A combine
id takes its prefix and exactly the bytes that counts; with no level of nesting left it raises `MalformedFrame`, and else the
list of those bytes, read with one level less, is the value. Any other id takes nothing in the bare mode, and else the value
of the transcoder it selects. The rest of the window is the rest of the list, and the first fault from the left is the
fault. -/
def Obligations.ListDecoderFollowsTheWire : Prop :=
  ∀ (p : Params) (bare : Bool),
    decodeWindow p bare [] = .ok [] ∧ (∀ b : Byte, decodeWindow p bare [b] = .error .malformedFrame) ∧
      ∀ (hi lo : Byte) (rest : Bytes),
        decodeWindow p bare (hi :: lo :: rest) =
          if hi.toNat < 32 then .error .unknownDataType
          else if (fieldsOf (hi ++ lo)).resourceType = .combine then
            match vlpDec rest 0 with
            | .error _ => .error .malformedFrame
            | .ok (len, k) =>
              if rest.length < k + len ∨ p.maxDepth = some 0 then .error .malformedFrame
              else
                match decodeWindow { p with maxDepth := p.maxDepth.map (· - 1) } bare ((rest.drop k).take len) with
                | .error e => .error e
                | .ok inner =>
                  (decodeWindow p bare (rest.drop (k + len))).map fun tail =>
                    .mk (hi ++ lo) (fieldsOf (hi ++ lo)) (.G (pointsOfList inner) false) :: tail
          else if bare = true then
            (decodeWindow p bare rest).map fun tail => .mk (hi ++ lo) (fieldsOf (hi ++ lo)) .Absent :: tail
          else
            match valSel p (hi ++ lo) with
            | .error e => .error e
            | .ok t =>
              match valDec t rest 0 with
              | .error e => .error e
              | .ok (v, k) =>
                (decodeWindow p bare (rest.drop k)).map fun tail => .mk (hi ++ lo) (fieldsOf (hi ++ lo)) v :: tail

/-- R214: what a limit of `m` changes. A list that decodes with no limit and nests at most `m` deep decodes to the same function
points under the limit; one that nests deeper raises `MalformedFrame`; and a window that faults with no limit faults under the
limit, with the same kind or, where a group too deep comes first, with `MalformedFrame`. So no function point nests deeper
than `MAX_DEPTH`. -/
def Obligations.NestingStaysWithinMaxDepth : Prop :=
  ∀ (p : Params) (m : Nat) (bare : Bool) (w : Bytes),
    p.maxDepth = some m →
      (match decodeWindow { p with maxDepth := none } bare w with
        | .ok fps =>
          if ∀ fp ∈ fps, pointDepth fp ≤ m then decodeWindow p bare w = .ok fps
          else decodeWindow p bare w = .error .malformedFrame
        | .error k => decodeWindow p bare w = .error k ∨ decodeWindow p bare w = .error .malformedFrame) ∧
        ∀ fps, decodeWindow p bare w = .ok fps → ∀ fp ∈ fps, pointDepth fp ≤ m

/-- R293: the list decoder ends because its window is finite. Any amount of fuel from the number of bytes that are left on
gives one and the same result, so the fuel the model gives it is never what stops it. -/
def Obligations.ListDecoderNeedsNoMoreFuel : Prop :=
  ∀ (p : Params) (bare : Bool) (fuel depth : Nat) (w : Bytes) (pos : Nat),
    w.length ≤ pos + fuel →
      decodeFPList p bare fuel depth w pos = decodeFPList p bare (w.length - pos) depth w pos

/-- R221 to R224: mode A, over the flat list its payload decodes to; a payload that does not decode raises the same fault. A
list that begins with a time marker raises `MalformedFrame`. Any other is a row of blocks, each an entry and the time
markers right after it: the entries of all groups in order are those of the blocks, each with the value of its last time
marker as its time, or the stamp of the decode where it has none. No group is empty, every group but the first begins with
the group marker, and the group marker stands nowhere else in a group but at its head. -/
def Obligations.ModeAGroupsSplitAtMarkers : Prop :=
  ∀ (p : Params) (now : TimeStamp) (payload : Bytes),
    match decodeWindow p false payload with
    | .error k => modeA p now payload = .error k
    | .ok flat =>
      if flat.head?.map pointId = some 0xE803 then modeA p now payload = .error .malformedFrame
      else
        ∃ (groups : List (List (Half × TimedPoint))) (blocks : List (FunctionPoint × List FunctionPoint)),
          modeA p now payload = .ok groups ∧ flat = blocks.flatMap (fun b => b.1 :: b.2) ∧
            (∀ b ∈ blocks, pointId b.1 ≠ 0xE803 ∧ ∀ m ∈ b.2, pointId m = 0xE803) ∧
            groups.flatten = blocks.map (fun b =>
              (pointId b.1,
                { point := b.1
                  time := match b.2.getLast? with
                    | none => .atDecode now
                    | some m => .marked (pointValue m) })) ∧
            (∀ g ∈ groups, g ≠ [] ∧ ∀ e ∈ g.tail, e.1 ≠ 0xE801) ∧
            ∀ g ∈ groups.tail, g.head?.map Prod.fst = some 0xE801

/-- R225 to R228, R218, R163: mode B, over any payload: entries (an id, then a string behind any prefix of its length, or, for
the last entry of a group under the two codes of the id-only rule, nothing), and what follows them. With nothing after them, a
number of entries that is a multiple of `N` comes back in groups of exactly `N`, in order, each with its string or no value,
and any other number raises `MalformedFrame`. What follows and is no entry is the fault, whatever the number of entries: a
byte left over, or a prefix or string that the window does not hold, raises `MalformedFrame`, and data type bits 000
`UnknownDataType`. -/
def Obligations.ModeBGroupsHaveFixedCount : Prop :=
  ∀ (n : Nat) (lastIsBare : Bool) (entries : List WireEntry) (tail : Bytes),
    1 ≤ n → (∀ e ∈ entries, e.legal) →
      match tail with
      | [] =>
        if entries.length % n = 0 then
          ∃ groups, modeB n lastIsBare (modeBWire n lastIsBare 0 entries) = .ok groups ∧ (∀ g ∈ groups, g.length = n) ∧
            groups.flatten = entries.mapIdx fun i e =>
              (e.fid, if lastIsBare = true ∧ (i + 1) % n = 0 then .Absent else .S e.text)
        else modeB n lastIsBare (modeBWire n lastIsBare 0 entries) = .error .malformedFrame
      | [_] => modeB n lastIsBare (modeBWire n lastIsBare 0 entries ++ tail) = .error .malformedFrame
      | hi :: _ :: rest =>
        if hi.toNat < 32 then modeB n lastIsBare (modeBWire n lastIsBare 0 entries ++ tail) = .error .unknownDataType
        else
          ¬(lastIsBare = true ∧ (entries.length + 1) % n = 0) →
            match vlpDec rest 0 with
            | .error _ => modeB n lastIsBare (modeBWire n lastIsBare 0 entries ++ tail) = .error .malformedFrame
            | .ok (len, k) =>
              rest.length < k + len →
                modeB n lastIsBare (modeBWire n lastIsBare 0 entries ++ tail) = .error .malformedFrame

/-- R151, R208, R216, R220, R225, R229 to R231: what the predicates on an operation code say of each of the 256 codes; which
treatment each operation code selects, the two fixed-count sets and the two flattening codes by value, with nothing inferred
from them (R291); and what each treatment makes of a payload: at device level the list of function points by their ids, in
mode B its groups, in mode A its groups, and under the two flattening codes the groups of mode A with `asDict` set on every
group value that stands directly in them and nothing else changed. -/
def Obligations.TreatmentOfEveryCode : Prop :=
  ∀ c : Byte,
    ((isResponse c = true ↔ 128 ≤ c.toNat) ∧ (isSubDevice c = true ↔ c.toNat / 64 % 2 = 1) ∧
      (isSystem c = true ↔ c.toNat / 32 % 2 = 1) ∧ (isRead c = true ↔ c.toNat / 32 % 2 = 0 ∧ c.toNat % 32 = 1) ∧
      (isDeviceReadReq c = true ↔ c = 0x01) ∧ (isSubDeviceReadReq c = true ↔ c = 0x41) ∧
      (tightened c = true ↔ c.toNat < 128 ∧ ¬(c.toNat / 64 % 2 = 0 ∧ c.toNat / 32 % 2 = 1)) ∧
      (modeBCount c =
        if c ∈ [(0x7F : Byte), 0x7E, 0x64, 0x65] then some 2
        else if c ∈ [(0x62 : Byte), 0x63, 0x41, 0xC2] then some 3
        else none) ∧
      (lastBare c = true ↔ c = 0x41 ∨ c = 0xC2) ∧ (flattens c = true ↔ c = 0x43 ∨ c = 0xC1)) ∧
    (treatmentOf c =
      if c ∈ [(0x7F : Byte), 0x7E, 0x64, 0x65] then .modeB 2 false
      else if c ∈ [(0x62 : Byte), 0x63] then .modeB 3 false
      else if c ∈ [(0x41 : Byte), 0xC2] then .modeB 3 true
      else if c ∈ [(0x43 : Byte), 0xC1] then .modeA true
      else if c.toNat / 64 % 2 = 1 then .modeA false
      else .deviceLevel (decide (c = 0x01))) ∧
    ∀ (p : Params) (now : TimeStamp) (payload : Bytes),
      decodePayload p now c payload =
        if c ∈ [(0x7F : Byte), 0x7E, 0x64, 0x65] then (modeB 2 false payload).map .modeB
        else if c ∈ [(0x62 : Byte), 0x63] then (modeB 3 false payload).map .modeB
        else if c ∈ [(0x41 : Byte), 0xC2] then (modeB 3 true payload).map .modeB
        else if c ∈ [(0x43 : Byte), 0xC1] then
          (modeA p now payload).map fun groups =>
            .modeA (groups.map fun g => g.map fun e =>
              (e.1,
                { point := match e.2.point with
                    | .mk fid f (.G fps _) => .mk fid f (.G fps true)
                    | fp => fp
                  time := e.2.time }))
        else if c.toNat / 64 % 2 = 1 then (modeA p now payload).map .modeA
        else
          (decodeWindow p (decide (c = 0x01)) payload).map fun fps =>
            .device (fps.map fun fp => match fp with | .mk fid f v => (fid, .mk fid f v))

/-- R233: a device-level request that avoids the cases of R286 comes back: packaging it completes, and parsing the frame from
`OBUF` completes with the request's version, message id, operation descriptor and response code, and with the function
points of its entries in order, groups nested as they were. With no depth limit. -/
def Obligations.ParseOfPackageReturnsRequest : Prop :=
  ∀ (vt vt' : BitVec 3) (s : State) (req : Request) (inner : Bytes),
    s.ports.request = req → s.params.maxDepth = none →
    1 ≤ req.rawVersion → req.rawVersion ≤ 99 →
    isSubDevice (opByte s.params req) = false → opByte s.params req ≠ 0x01 →
    (isResponse (opByte s.params req) = true → req.code.isSome = true) →
    (tightened (opByte s.params req) = true → req.params ≠ .nil) →
    req.groupId = none → faithfulEntries s.params req.params = true →
    encodeEntries false req.params = .ok inner →
      ∃ t u, exec (.pkg vt) s = .next t ∧ t.err.valid = false ∧
        exec (.parse vt') { t with ibuf := Memory.ofBytes t.obuf.bytes } = .next u ∧ u.err.valid = false ∧
        u.result = .response (expectedResponse s.params req)

/-- R180, R215: a bare device-level READ request of one function point comes back with its value absent. -/
def Obligations.BareReadComesBackAbsent : Prop :=
  ∀ (vt vt' : BitVec 3) (s : State) (req : Request) (fid : Half) (tag : Tag) (v : Value),
    s.ports.request = req → 1 ≤ req.rawVersion → req.rawVersion ≤ 99 → opByte s.params req = 0x01 →
    req.groupId = none → req.params = .cons (.plain fid tag v) .nil →
    fidDataTypeBits fid ≠ 0 → (fieldsOf fid).resourceType ≠ .combine →
      ∃ t u r, exec (.pkg vt) s = .next t ∧ t.err.valid = false ∧
        exec (.parse vt') { t with ibuf := Memory.ofBytes t.obuf.bytes } = .next u ∧ u.err.valid = false ∧
        u.result = .response r ∧ r.params = .device [(fid, .mk fid (fieldsOf fid) .Absent)]

/-! ### The rows of the data formats

That a row of a data format is the instruction "the unit that owns the format reads this word" is the model's reading of the
table (log entry 3). These statements say that such a row does with its word what the spec says its unit does with it. -/

/-- Every operation-code row completes with the descriptor `OPC.DEC` gives its code (R148, R149). That `OBUF` and the
cursors are left as they were is read from the spec by inference (log entry 8). -/
def Obligations.OperationCodeRowsDecode : Prop :=
  ∀ (i : Instr) (s : State),
    i.format = .opc8 → ∃ t c, encode i = [c] ∧ exec i s = .next t ∧ DeliveredWith s t (.descriptor (opcDec c))

/-- Every treatment row completes with the treatment the parser selects for its code (R69, R208). That `OBUF` and the
cursors are left as they were is read from the spec by inference (log entry 8). -/
def Obligations.TreatmentRowsSelect : Prop :=
  ∀ (i : Instr) (s : State),
    i.format = .opcset → i.wellFormed = true →
      ∃ t c, encode i = [c] ∧ exec i s = .next t ∧ DeliveredWith s t (.treatment (treatmentOf c))

/-- The rows of function ids. A data type row does with its id what the selector does (R113): with a bijective `DT_CODE`,
rows 1 to 7 complete with a transcoder and row 0 raises `UnknownDataType`. A function type row and a resource range row do
what `FID.DEC` does (R141, R142): they complete with the fields of the id where its data type bits are not 000, and raise
`UnknownDataType` where they are. The two marker rows complete with the role of their id (R75). That `OBUF` and the cursors
are left as they were is read from the spec by inference (log entry 8). -/
def Obligations.FunctionIdRowsDecode : Prop :=
  (∀ (i : Instr) (s : State),
    i.format = .fidDataType → paramsWf s.params = true →
      ∃ t hi lo, encode i = [hi, lo] ∧ exec i s = .next t ∧
        if hi.toNat / 32 = 0 then FaultedWith s t .unknownDataType none
        else ∃ tag, valSel s.params (hi ++ lo) = .ok tag ∧ DeliveredWith s t (.selected tag)) ∧
    (∀ (i : Instr) (s : State),
      i.format = .fidFunctionType ∨ i.format = .fidResourceType →
        ∃ t hi lo, encode i = [hi, lo] ∧ exec i s = .next t ∧
          if hi.toNat / 32 = 0 then FaultedWith s t .unknownDataType none
          else DeliveredWith s t (.fields (fieldsOf (hi ++ lo)))) ∧
    ∀ s : State,
      (∃ t, exec .fid16MarkerE801NewGroup s = .next t ∧ DeliveredWith s t (.marker .newGroup)) ∧
        ∃ t, exec .fid16MarkerE803Time s = .next t ∧ DeliveredWith s t (.marker .time)

/-- Every prefix row completes with what `VLP.DEC` gives for its bytes, and `POS` past them (R162). That `OBUF`, `DEPTH` and
`STEP` are left as they were is read from the spec by inference (log entry 8). -/
def Obligations.PrefixRowsDecode : Prop :=
  ∀ (i : Instr) (s : State),
    i.format = .vlp →
      ∃ t len k, vlpDec (encode i) 0 = .ok (len, k) ∧ k = (encode i).length ∧ exec i s = .next t ∧
        ReadWith s t (.length len k) k

/-- Every first-byte row does what steps 1 and 2 of `PARSE` do with its byte (R201, R202, R232): the illegal bytes raise
`MalformedFrame`, and the others complete with the flag and the version. That `OBUF` and the cursors are left as they were
is read from the spec by inference (log entry 8). -/
def Obligations.FirstByteRowsRead : Prop :=
  ∀ (i : Instr) (s : State),
    i.format = .ver → i.wellFormed = true →
      ∃ t b, encode i = [b] ∧ exec i s = .next t ∧
        if b = 0x00 ∨ b = 0x80 then FaultedWith s t .malformedFrame none
        else DeliveredWith s t
          (.version (decide (128 < b.toNat)) (if 128 < b.toNat then b.toNat - 128 else b.toNat))

/-- R251: the eight kinds and their numbers. Each of the eight rows is the byte of its number, and takes the fault of the kind
it names: `ERR.kind` holds that number and no correlation field is set (R261, R264). There is no other row. -/
def Obligations.ErrorKindRowsFault : Prop :=
  (∀ i : Instr,
    i.format = .errkind →
      i ∈ [Instr.errkind1MalformedFrame, .errkind2IntegrityError, .errkind3UnknownDataType, .errkind4ValueOutOfRange,
        .errkind5TypeMismatch, .errkind6ArityError, .errkind7JsonParseError, .errkind8MissingField]) ∧
    ∀ (s : State) (i : Instr) (kind : ErrKind) (number : Byte),
      (i, kind, number) ∈
        [(Instr.errkind1MalformedFrame, ErrKind.malformedFrame, (1 : Byte)), (.errkind2IntegrityError, .integrityError, 2),
          (.errkind3UnknownDataType, .unknownDataType, 3), (.errkind4ValueOutOfRange, .valueOutOfRange, 4),
          (.errkind5TypeMismatch, .typeMismatch, 5), (.errkind6ArityError, .arityError, 6),
          (.errkind7JsonParseError, .jsonParseError, 7), (.errkind8MissingField, .missingField, 8)] →
        encode i = [number] ∧
          ∃ t, exec i s = .next t ∧ FaultedWith s t kind none ∧ t.err.kind.toNat = number.toNat
end

