-- ==== Sys2Proof/Laws/Bytes.lean ====
section
/-! SUPPORT. Big-endian packing and its inverse (spec/00_scope.md R13). -/

namespace Sys2Proof

@[simp] theorem beBytes_length (n v : Nat) : (beBytes n v).length = n := by
  induction n with
  | zero => rfl
  | succ n ih => simp [beBytes, ih]

theorem foldl_ube (acc : Nat) (bs : Bytes) :
    bs.foldl (fun a b => a * 256 + b.toNat) acc = acc * 256 ^ bs.length + ubeNat bs := by
  unfold ubeNat
  induction bs generalizing acc with
  | nil => simp
  | cons b bs ih =>
    simp only [List.foldl_cons, List.length_cons]
    rw [ih, ih (0 * 256 + b.toNat)]
    ring

@[simp] theorem ubeNat_nil : ubeNat [] = 0 := rfl

/-- The first byte is the most significant. -/
theorem ubeNat_cons (b : Byte) (bs : Bytes) : ubeNat (b :: bs) = b.toNat * 256 ^ bs.length + ubeNat bs := by
  have h := foldl_ube (0 * 256 + b.toNat) bs
  simpa [ubeNat] using h

/-- A sequence of `n` bytes holds a number below `256 ^ n`. -/
theorem ubeNat_lt (bs : Bytes) : ubeNat bs < 256 ^ bs.length := by
  induction bs with
  | nil => simp
  | cons b bs ih =>
    rw [ubeNat_cons, List.length_cons, pow_succ]
    have hb : b.toNat < 256 := b.isLt
    nlinarith

/-- `UBE_n(BE_n(v))` is `v` cut to `8n` bits. -/
theorem ubeNat_beBytes (n v : Nat) : ubeNat (beBytes n v) = v % 256 ^ n := by
  induction n with
  | zero => simp [beBytes, Nat.mod_one]
  | succ n ih =>
    rw [beBytes, ubeNat_cons, beBytes_length, ih, BitVec.toNat_ofNat]
    have h : v % 256 ^ (n + 1) = v % 256 ^ n + 256 ^ n * (v / 256 ^ n % 256) := by
      rw [pow_succ, Nat.mod_mul]
    rw [h]
    ring

/-- `BE_n(UBE_n(bs))` is `bs`. -/
theorem beBytes_ubeNat (bs : Bytes) : beBytes bs.length (ubeNat bs) = bs := by
  have key : ∀ (n v w : Nat), v % 256 ^ n = w % 256 ^ n → beBytes n v = beBytes n w := by
    intro n
    induction n with
    | zero => intros; rfl
    | succ n ih =>
      intro v w h
      have hlow : v % 256 ^ n = w % 256 ^ n := by
        have h1 := congrArg (· % 256 ^ n) h
        simpa [pow_succ, Nat.mod_mul_right_mod] using h1
      have hhigh : v / 256 ^ n % 256 = w / 256 ^ n % 256 := by
        have h1 := congrArg (· / 256 ^ n) h
        simpa [pow_succ, Nat.mod_mul_right_div_self] using h1
      rw [beBytes, beBytes, ih v w hlow]
      congr 1
      apply BitVec.eq_of_toNat_eq
      simpa using hhigh
  induction bs with
  | nil => rfl
  | cons b bs ih =>
    rw [List.length_cons, beBytes, ubeNat_cons]
    have hlt := ubeNat_lt bs
    have hpos : 0 < 256 ^ bs.length := Nat.pos_of_ne_zero (by positivity)
    have hhead : (b.toNat * 256 ^ bs.length + ubeNat bs) / 256 ^ bs.length = b.toNat := by
      rw [Nat.add_comm, Nat.add_mul_div_right _ _ hpos, Nat.div_eq_of_lt hlt, Nat.zero_add]
    rw [hhead, key bs.length _ (ubeNat bs) (by rw [Nat.add_comm, Nat.add_mul_mod_self_right]), ih]
    simp

/-- Two bytes hold the number of the half they make, high byte first. -/
theorem ubeNat_pair (hi lo : Byte) : ubeNat [hi, lo] = (hi ++ lo : Half).toNat := by
  rw [BitVec.toNat_append, ← Nat.shiftLeft_add_eq_or_of_lt lo.isLt, Nat.shiftLeft_eq]
  simp [ubeNat]

/-- The two bytes of a half, high byte first. -/
theorem beBytes_half (h : Half) : beBytes 2 h.toNat = [h.extractLsb' 8 8, h.extractLsb' 0 8] := by
  simp only [beBytes, List.cons.injEq, and_true]
  constructor <;> apply BitVec.eq_of_toNat_eq <;> simp [Nat.shiftRight_eq_div_pow]

end Sys2Proof
end

