-- ==== Sys2Proof/Laws/Memory.lean ====
section
/-! SUPPORT. The byte spaces and byte order: every memory operation keeps the canonical form, reading after writing gives what
was written, and `BE_n` and `UBE_n` undo each other. -/

namespace Sys2Proof.Machine

open Sys2Proof

@[simp] theorem entriesFrom_length (a : Nat) (bs : Bytes) : (Memory.entriesFrom a bs).length = bs.length := by
  induction bs generalizing a with
  | nil => rfl
  | cons b bs ih => simp [Memory.entriesFrom, ih]

@[simp] theorem entriesFrom_bytes (a : Nat) (bs : Bytes) : Memory.bytes (Memory.entriesFrom a bs) = bs := by
  unfold Memory.bytes
  induction bs generalizing a with
  | nil => rfl
  | cons b bs ih => simp [Memory.entriesFrom, ih]

theorem entriesFrom_addresses (a : Nat) (bs : Bytes) :
    (Memory.entriesFrom a bs).map Prod.fst = List.range' a bs.length := by
  induction bs generalizing a with
  | nil => rfl
  | cons b bs ih => simp [Memory.entriesFrom, ih, List.range'_succ]

@[simp] theorem ofBytes_bytes (bs : Bytes) : (Memory.ofBytes bs).bytes = bs := entriesFrom_bytes 0 bs

/-- A byte space made from a byte sequence is in canonical form. -/
@[simp] theorem ofBytes_wf (bs : Bytes) : (Memory.ofBytes bs).wf = true := by
  simp [Memory.wf, Memory.ofBytes, entriesFrom_addresses, List.range_eq_range']

@[simp] theorem append_nil_eq_ofBytes (bs : Bytes) : Memory.append [] bs = Memory.ofBytes bs := by
  simp [Memory.append, Memory.ofBytes]

@[simp] theorem append_bytes (m : Memory) (bs : Bytes) : (Memory.append m bs).bytes = m.bytes ++ bs := by
  have h := entriesFrom_bytes m.length bs
  unfold Memory.bytes at h
  simp [Memory.append, Memory.bytes, h]

/-- Appending keeps the canonical form. -/
theorem append_wf (m : Memory) (bs : Bytes) (h : m.wf = true) : (Memory.append m bs).wf = true := by
  simp only [Memory.wf, beq_iff_eq] at h ⊢
  simp only [Memory.append, List.map_append, h, entriesFrom_addresses, List.length_append, entriesFrom_length]
  rw [List.range_eq_range', List.range_eq_range', ← List.range'_append_1]
  simp

theorem entriesFrom_find (a k : Nat) (bs : Bytes) :
    ((Memory.entriesFrom a bs).find? fun e => e.1 == a + k).map Prod.snd = bs[k]? := by
  induction bs generalizing a k with
  | nil => rfl
  | cons b bs ih =>
    cases k with
    | zero => simp [Memory.entriesFrom]
    | succ k =>
      have h := ih (a + 1) k
      rw [show a + 1 + k = a + (k + 1) by omega] at h
      simpa [Memory.entriesFrom, List.find?_cons] using h

/-- Reading a byte space made from a byte sequence gives the byte at that index, and nothing past its end. -/
@[simp] theorem ofBytes_read (bs : Bytes) (a : Nat) : (Memory.ofBytes bs).read a = bs[a]? := by
  have h := entriesFrom_find 0 a bs
  rw [Nat.zero_add] at h
  rw [← h, Memory.read, Memory.ofBytes]
  cases (Memory.entriesFrom 0 bs).find? fun e => e.1 == a <;> rfl

/-- Bytes already in a byte space in canonical form stay where they are when more are appended. -/
theorem append_read_old (m : Memory) (bs : Bytes) (a : Nat) (e : Host.Cell) (h : m.find? (fun e => e.1 == a) = some e) :
    (Memory.append m bs).read a = some e.2 := by
  simp [Memory.read, Memory.append, List.find?_append, h]

/-- A byte space in canonical form is the one its byte sequence makes. -/
theorem eq_ofBytes_of_wf (m : Memory) (h : m.wf = true) : m = Memory.ofBytes m.bytes := by
  simp only [Memory.wf, beq_iff_eq] at h
  have hfst : (Memory.ofBytes m.bytes).map Prod.fst = m.map Prod.fst := by
    rw [h, Memory.ofBytes, entriesFrom_addresses, List.range_eq_range']
    simp [Memory.bytes]
  have hsnd : (Memory.ofBytes m.bytes).map Prod.snd = m.map Prod.snd := ofBytes_bytes m.bytes
  calc m = (m.map Prod.fst).zip (m.map Prod.snd) := (List.zip_of_prod rfl rfl)
    _ = ((Memory.ofBytes m.bytes).map Prod.fst).zip ((Memory.ofBytes m.bytes).map Prod.snd) := by rw [hfst, hsnd]
    _ = Memory.ofBytes m.bytes := (List.zip_of_prod rfl rfl).symm

/-! ### Reading a window -/

/-- What `MemReadBytes` gives: exactly the bytes of the window, all of them inside it. -/
theorem memReadBytes_eq_ok {w : Bytes} {addr n : Nat} {bs : Bytes} :
    memReadBytes w addr n = .ok bs ↔ addr + n ≤ w.length ∧ bs = (w.drop addr).take n := by
  unfold memReadBytes
  split
  · rename_i h
    simp [h, eq_comm]
  · rename_i h
    simp [h]

/-- The only way `MemReadBytes` fails. -/
theorem memReadBytes_eq_error {w : Bytes} {addr n : Nat} {k : ErrKind} :
    memReadBytes w addr n = .error k ↔ w.length < addr + n ∧ k = .malformedFrame := by
  unfold memReadBytes
  split
  · rename_i h
    simp only [reduceCtorEq, false_iff, not_and]
    omega
  · rename_i h
    simp only [Except.error.injEq]
    constructor
    · rintro rfl
      exact ⟨by omega, rfl⟩
    · rintro ⟨-, rfl⟩
      rfl

/-- What `MemRead` gives. -/
theorem memRead_eq_ok {w : Bytes} {addr n v : Nat} :
    memRead w addr n = .ok v ↔ addr + n ≤ w.length ∧ v = ubeNat ((w.drop addr).take n) := by
  unfold memRead
  cases h : memReadBytes w addr n with
  | ok bs =>
    obtain ⟨h1, rfl⟩ := memReadBytes_eq_ok.1 h
    simp [h1, eq_comm]
  | error k =>
    obtain ⟨h1, rfl⟩ := memReadBytes_eq_error.1 h
    simp only [reduceCtorEq, false_iff, not_and]
    omega

/-- The only way `MemRead` fails. -/
theorem memRead_eq_error {w : Bytes} {addr n : Nat} {k : ErrKind} :
    memRead w addr n = .error k ↔ w.length < addr + n ∧ k = .malformedFrame := by
  unfold memRead
  cases h : memReadBytes w addr n with
  | ok bs =>
    obtain ⟨h1, rfl⟩ := memReadBytes_eq_ok.1 h
    simp only [reduceCtorEq, false_iff, not_and]
    omega
  | error e =>
    obtain ⟨h1, rfl⟩ := memReadBytes_eq_error.1 h
    simp [h1, eq_comm]

end Sys2Proof.Machine
end

