-- ==== Sys2Proof/Laws/State.lean ====
section
/-! SUPPORT. One lemma per field per update of State, each true by definition, so that no proof unfolds a record update. -/

namespace Sys2Proof.Machine

open Sys2Proof

@[simp] theorem completeCrc_crc (c : Half) (s : State) :
    (completeCrc c s).crc = c := rfl
@[simp] theorem completeCrc_pos (c : Half) (s : State) :
    (completeCrc c s).pos = s.pos := rfl
@[simp] theorem completeCrc_depth (c : Half) (s : State) :
    (completeCrc c s).depth = s.depth := rfl
@[simp] theorem completeCrc_stepCtr (c : Half) (s : State) :
    (completeCrc c s).stepCtr = s.stepCtr := rfl
@[simp] theorem completeCrc_err (c : Half) (s : State) :
    (completeCrc c s).err = { Config.freeErr s.draws with valid := false } := rfl
@[simp] theorem completeCrc_ibuf (c : Half) (s : State) :
    (completeCrc c s).ibuf = s.ibuf := rfl
@[simp] theorem completeCrc_obuf (c : Half) (s : State) :
    (completeCrc c s).obuf = s.obuf := rfl
@[simp] theorem completeCrc_result (c : Half) (s : State) :
    (completeCrc c s).result = s.result := rfl
@[simp] theorem completeCrc_params (c : Half) (s : State) :
    (completeCrc c s).params = s.params := rfl
@[simp] theorem completeCrc_ports (c : Half) (s : State) :
    (completeCrc c s).ports = s.ports := rfl
@[simp] theorem completeCrc_script (c : Half) (s : State) :
    (completeCrc c s).script = s.script := rfl
@[simp] theorem completeCrc_draws (c : Half) (s : State) :
    (completeCrc c s).draws = s.draws + 1 := rfl

@[simp] theorem complete_crc (s : State) :
    (complete s).crc = Config.freeCrc s.draws := rfl
@[simp] theorem complete_pos (s : State) :
    (complete s).pos = s.pos := rfl
@[simp] theorem complete_depth (s : State) :
    (complete s).depth = s.depth := rfl
@[simp] theorem complete_stepCtr (s : State) :
    (complete s).stepCtr = s.stepCtr := rfl
@[simp] theorem complete_err (s : State) :
    (complete s).err = { Config.freeErr s.draws with valid := false } := rfl
@[simp] theorem complete_ibuf (s : State) :
    (complete s).ibuf = s.ibuf := rfl
@[simp] theorem complete_obuf (s : State) :
    (complete s).obuf = s.obuf := rfl
@[simp] theorem complete_result (s : State) :
    (complete s).result = s.result := rfl
@[simp] theorem complete_params (s : State) :
    (complete s).params = s.params := rfl
@[simp] theorem complete_ports (s : State) :
    (complete s).ports = s.ports := rfl
@[simp] theorem complete_script (s : State) :
    (complete s).script = s.script := rfl
@[simp] theorem complete_draws (s : State) :
    (complete s).draws = s.draws + 1 := rfl

@[simp] theorem deliver_crc (r : Result) (s : State) :
    (deliver r s).crc = Config.freeCrc s.draws := rfl
@[simp] theorem deliver_pos (r : Result) (s : State) :
    (deliver r s).pos = s.pos := rfl
@[simp] theorem deliver_depth (r : Result) (s : State) :
    (deliver r s).depth = s.depth := rfl
@[simp] theorem deliver_stepCtr (r : Result) (s : State) :
    (deliver r s).stepCtr = s.stepCtr := rfl
@[simp] theorem deliver_err (r : Result) (s : State) :
    (deliver r s).err = { Config.freeErr s.draws with valid := false } := rfl
@[simp] theorem deliver_ibuf (r : Result) (s : State) :
    (deliver r s).ibuf = s.ibuf := rfl
@[simp] theorem deliver_obuf (r : Result) (s : State) :
    (deliver r s).obuf = s.obuf := rfl
@[simp] theorem deliver_result (r : Result) (s : State) :
    (deliver r s).result = r := rfl
@[simp] theorem deliver_params (r : Result) (s : State) :
    (deliver r s).params = s.params := rfl
@[simp] theorem deliver_ports (r : Result) (s : State) :
    (deliver r s).ports = s.ports := rfl
@[simp] theorem deliver_script (r : Result) (s : State) :
    (deliver r s).script = s.script := rfl
@[simp] theorem deliver_draws (r : Result) (s : State) :
    (deliver r s).draws = s.draws + 1 := rfl

@[simp] theorem emit_crc (bs : Bytes) (s : State) :
    (emit bs s).crc = Config.freeCrc s.draws := rfl
@[simp] theorem emit_pos (bs : Bytes) (s : State) :
    (emit bs s).pos = s.pos := rfl
@[simp] theorem emit_depth (bs : Bytes) (s : State) :
    (emit bs s).depth = s.depth := rfl
@[simp] theorem emit_stepCtr (bs : Bytes) (s : State) :
    (emit bs s).stepCtr = s.stepCtr := rfl
@[simp] theorem emit_err (bs : Bytes) (s : State) :
    (emit bs s).err = { Config.freeErr s.draws with valid := false } := rfl
@[simp] theorem emit_ibuf (bs : Bytes) (s : State) :
    (emit bs s).ibuf = s.ibuf := rfl
@[simp] theorem emit_obuf (bs : Bytes) (s : State) :
    (emit bs s).obuf = Memory.append [] bs := rfl
@[simp] theorem emit_result (bs : Bytes) (s : State) :
    (emit bs s).result = s.result := rfl
@[simp] theorem emit_params (bs : Bytes) (s : State) :
    (emit bs s).params = s.params := rfl
@[simp] theorem emit_ports (bs : Bytes) (s : State) :
    (emit bs s).ports = s.ports := rfl
@[simp] theorem emit_script (bs : Bytes) (s : State) :
    (emit bs s).script = s.script := rfl
@[simp] theorem emit_draws (bs : Bytes) (s : State) :
    (emit bs s).draws = s.draws + 1 := rfl

@[simp] theorem takeFault_crc (k : ErrKind) (corr : Option Correlation) (s : State) :
    (takeFault k corr s).crc = Config.freeCrc s.draws := rfl
@[simp] theorem takeFault_pos (k : ErrKind) (corr : Option Correlation) (s : State) :
    (takeFault k corr s).pos = Config.freePos s.draws := rfl
@[simp] theorem takeFault_depth (k : ErrKind) (corr : Option Correlation) (s : State) :
    (takeFault k corr s).depth = Config.freeDepth s.draws := rfl
@[simp] theorem takeFault_stepCtr (k : ErrKind) (corr : Option Correlation) (s : State) :
    (takeFault k corr s).stepCtr = (Config.freeStep s.draws).val + 1 := rfl
@[simp] theorem takeFault_err (k : ErrKind) (corr : Option Correlation) (s : State) :
    (takeFault k corr s).err = faultRecord k corr (Config.freeErr s.draws) := rfl
@[simp] theorem takeFault_ibuf (k : ErrKind) (corr : Option Correlation) (s : State) :
    (takeFault k corr s).ibuf = s.ibuf := rfl
@[simp] theorem takeFault_obuf (k : ErrKind) (corr : Option Correlation) (s : State) :
    (takeFault k corr s).obuf = Memory.append [] (Config.freeBytes s.draws) := rfl
@[simp] theorem takeFault_result (k : ErrKind) (corr : Option Correlation) (s : State) :
    (takeFault k corr s).result = Config.freeResult s.draws := rfl
@[simp] theorem takeFault_params (k : ErrKind) (corr : Option Correlation) (s : State) :
    (takeFault k corr s).params = s.params := rfl
@[simp] theorem takeFault_ports (k : ErrKind) (corr : Option Correlation) (s : State) :
    (takeFault k corr s).ports = s.ports := rfl
@[simp] theorem takeFault_script (k : ErrKind) (corr : Option Correlation) (s : State) :
    (takeFault k corr s).script = s.script := rfl
@[simp] theorem takeFault_draws (k : ErrKind) (corr : Option Correlation) (s : State) :
    (takeFault k corr s).draws = s.draws + 1 := rfl

@[simp] theorem resetBlock_crc (s : State) :
    (resetBlock s).crc = 0xFFFF := rfl
@[simp] theorem resetBlock_pos (s : State) :
    (resetBlock s).pos = 0 := rfl
@[simp] theorem resetBlock_depth (s : State) :
    (resetBlock s).depth = 0 := rfl
@[simp] theorem resetBlock_stepCtr (s : State) :
    (resetBlock s).stepCtr = 1 := rfl
@[simp] theorem resetBlock_err (s : State) :
    (resetBlock s).err = { Config.freeErr s.draws with valid := false } := rfl
@[simp] theorem resetBlock_ibuf (s : State) :
    (resetBlock s).ibuf = [] := rfl
@[simp] theorem resetBlock_obuf (s : State) :
    (resetBlock s).obuf = [] := rfl
@[simp] theorem resetBlock_result (s : State) :
    (resetBlock s).result = Config.freeResult s.draws := rfl
@[simp] theorem resetBlock_params (s : State) :
    (resetBlock s).params = s.params := rfl
@[simp] theorem resetBlock_ports (s : State) :
    (resetBlock s).ports = s.ports := rfl
@[simp] theorem resetBlock_script (s : State) :
    (resetBlock s).script = s.script := rfl
@[simp] theorem resetBlock_draws (s : State) :
    (resetBlock s).draws = s.draws + 1 := rfl

@[simp] theorem takeReset_crc (rest : List HostAction) (s : State) :
    (takeReset rest s).crc = 0xFFFF := rfl
@[simp] theorem takeReset_pos (rest : List HostAction) (s : State) :
    (takeReset rest s).pos = 0 := rfl
@[simp] theorem takeReset_depth (rest : List HostAction) (s : State) :
    (takeReset rest s).depth = 0 := rfl
@[simp] theorem takeReset_stepCtr (rest : List HostAction) (s : State) :
    (takeReset rest s).stepCtr = 1 := rfl
@[simp] theorem takeReset_err (rest : List HostAction) (s : State) :
    (takeReset rest s).err = { Config.freeErr s.draws with valid := false } := rfl
@[simp] theorem takeReset_ibuf (rest : List HostAction) (s : State) :
    (takeReset rest s).ibuf = [] := rfl
@[simp] theorem takeReset_obuf (rest : List HostAction) (s : State) :
    (takeReset rest s).obuf = [] := rfl
@[simp] theorem takeReset_result (rest : List HostAction) (s : State) :
    (takeReset rest s).result = Config.freeResult s.draws := rfl
@[simp] theorem takeReset_params (rest : List HostAction) (s : State) :
    (takeReset rest s).params = s.params := rfl
@[simp] theorem takeReset_ports (rest : List HostAction) (s : State) :
    (takeReset rest s).ports = s.ports := rfl
@[simp] theorem takeReset_script (rest : List HostAction) (s : State) :
    (takeReset rest s).script = rest := rfl
@[simp] theorem takeReset_draws (rest : List HostAction) (s : State) :
    (takeReset rest s).draws = s.draws + 1 := rfl

@[simp] theorem accept_crc (i : Issue) (rest : List HostAction) (s : State) :
    (accept i rest s).crc = s.crc := rfl
@[simp] theorem accept_pos (i : Issue) (rest : List HostAction) (s : State) :
    (accept i rest s).pos = s.pos := rfl
@[simp] theorem accept_depth (i : Issue) (rest : List HostAction) (s : State) :
    (accept i rest s).depth = s.depth := rfl
@[simp] theorem accept_stepCtr (i : Issue) (rest : List HostAction) (s : State) :
    (accept i rest s).stepCtr = s.stepCtr := rfl
@[simp] theorem accept_err (i : Issue) (rest : List HostAction) (s : State) :
    (accept i rest s).err = s.err := rfl
@[simp] theorem accept_ibuf (i : Issue) (rest : List HostAction) (s : State) :
    (accept i rest s).ibuf = fillInput i.input s := rfl
@[simp] theorem accept_obuf (i : Issue) (rest : List HostAction) (s : State) :
    (accept i rest s).obuf = s.obuf := rfl
@[simp] theorem accept_result (i : Issue) (rest : List HostAction) (s : State) :
    (accept i rest s).result = s.result := rfl
@[simp] theorem accept_params (i : Issue) (rest : List HostAction) (s : State) :
    (accept i rest s).params = i.params.getD s.params := rfl
@[simp] theorem accept_ports (i : Issue) (rest : List HostAction) (s : State) :
    (accept i rest s).ports = i.operands.getD s.ports := rfl
@[simp] theorem accept_script (i : Issue) (rest : List HostAction) (s : State) :
    (accept i rest s).script = rest := rfl
@[simp] theorem accept_draws (i : Issue) (rest : List HostAction) (s : State) :
    (accept i rest s).draws = s.draws := rfl

end Sys2Proof.Machine
end

