-- ==== Sys2Proof/Laws/Ops.lean ====
section
/-! SUPPORT. Once for each shared operation, everything it can do: how a command completes, how it faults, and what each
`finish` answers. -/

namespace Sys2Proof.Machine

open Sys2Proof

theorem CursorKept.refl (s : State) : CursorKept s s := ⟨rfl, rfl, rfl⟩

theorem ObufKept.refl (s : State) : ObufKept s s := fun _ => rfl

theorem HostSideKept.refl (s : State) : HostSideKept s s := ⟨rfl, rfl, rfl, fun _ => rfl⟩

/-- A state that differs from another in none of the host's fields keeps the host's side. -/
theorem HostSideKept.of_eq {s t : State} (hp : t.params = s.params) (ho : t.ports = s.ports) (hs : t.script = s.script)
    (hi : t.ibuf = s.ibuf) : HostSideKept s t := ⟨hp, ho, hs, fun _ => by rw [hi]⟩

/-- The error record of a fault says its kind and its correlation fields, whatever the unspecified fields are. -/
theorem faultRecord_is (k : ErrKind) (corr : Option Correlation) (free : ErrRecord) :
    ErrorIs (faultRecord k corr free) k corr := by
  cases corr with
  | none => exact ⟨rfl, rfl, rfl, rfl⟩
  | some c =>
    obtain ⟨id, op⟩ := c
    cases id with
    | none => exact ⟨rfl, rfl, rfl, rfl, rfl⟩
    | some m => exact ⟨rfl, rfl, rfl, rfl, rfl, rfl⟩

/-- Taking a fault writes the error record and leaves the host's side. -/
theorem takeFault_spec (k : ErrKind) (corr : Option Correlation) (s : State) :
    FaultedWith s (takeFault k corr s) k corr :=
  ⟨faultRecord_is k corr _, HostSideKept.of_eq rfl rfl rfl rfl⟩

/-- Delivering a record changes the record, `CRC`, `ERR` and nothing else that a program can see. -/
theorem deliver_spec (r : Result) (s : State) : DeliveredWith s (deliver r s) r :=
  ⟨rfl, rfl, CursorKept.refl s, ObufKept.refl s, HostSideKept.of_eq rfl rfl rfl rfl⟩

/-- Emitting bytes leaves exactly them in `OBUF`, in canonical form. -/
theorem emit_spec (bs : Bytes) (s : State) : EmittedWith s (emit bs s) bs :=
  ⟨rfl, by simp, by simp, rfl, CursorKept.refl s, HostSideKept.of_eq rfl rfl rfl rfl⟩

/-- What `finishEmit` answers: the bytes emitted, or the fault taken. -/
theorem finishEmit_eq_next {r : Except ErrKind Bytes} {s t : State} (h : finishEmit r s = .next t) :
    (∃ bs, r = .ok bs ∧ t = emit bs s) ∨ ∃ k, r = .error k ∧ t = takeFault k none s := by
  cases r with
  | ok bs => exact .inl ⟨bs, rfl, by simpa [finishEmit] using h.symm⟩
  | error k => exact .inr ⟨k, rfl, by simpa [finishEmit] using h.symm⟩

/-- What `finishDeliver` answers: the record delivered, or the fault taken. -/
theorem finishDeliver_eq_next {r : Except ErrKind Result} {s t : State} (h : finishDeliver r s = .next t) :
    (∃ x, r = .ok x ∧ t = deliver x s) ∨ ∃ k, r = .error k ∧ t = takeFault k none s := by
  cases r with
  | ok x => exact .inl ⟨x, rfl, by simpa [finishDeliver] using h.symm⟩
  | error k => exact .inr ⟨k, rfl, by simpa [finishDeliver] using h.symm⟩

/-- What `finishRead` answers: the record delivered and `POS` moved, or the fault taken. -/
theorem finishRead_eq_next {r : Except ErrKind (Result × Nat)} {pos : Nat} {s t : State}
    (h : finishRead r pos s = .next t) :
    (∃ x n, r = .ok (x, n) ∧ t = { deliver x s with pos := pos + n }) ∨
      ∃ k, r = .error k ∧ t = takeFault k none s := by
  cases r with
  | ok x => exact .inl ⟨x.1, x.2, rfl, by simpa [finishRead] using h.symm⟩
  | error k => exact .inr ⟨k, rfl, by simpa [finishRead] using h.symm⟩

/-- A read that completes leaves its record and `POS`, and nothing else that a program can see. -/
theorem finishRead_spec (x : Result) (pos n : Nat) (s : State) :
    ∃ t, finishRead (.ok (x, n)) pos s = .next t ∧ ReadWith s t x (pos + n) :=
  ⟨{ deliver x s with pos := pos + n }, rfl, rfl, rfl, rfl, rfl, rfl, ObufKept.refl s,
    HostSideKept.of_eq rfl rfl rfl rfl⟩

/-- `VAL.ENC.<t>` is the encoder of its transcoder (R112). -/
theorem exec_encoderOf (tag : Tag) (s : State) : exec (encoderOf tag) s = finishEmit (valEnc tag s.ports.value) s := by
  cases tag <;> rfl

/-- `VAL.DEC.<t>` is the decoder of its transcoder, over the window and the offset. -/
theorem exec_decoderOf (tag : Tag) (s : State) :
    exec (decoderOf tag) s = finishDecode (valDec tag s.window s.offset) s := by cases tag <;> rfl

/-- What `PKG` answers: the frame emitted with `STEP` at 7, or the fault taken with `OBUF` empty. -/
theorem execPkg_eq_next {vt : BitVec 3} {s t : State} (h : execPkg vt s = .next t) :
    (∃ frame, packageFrame s.params s.ports.request = .ok frame ∧ t = { emit frame s with stepCtr := 7 }) ∨
      ∃ k, packageFrame s.params s.ports.request = .error k ∧ t = { takeFault k none s with obuf := [] } := by
  unfold execPkg at h
  cases hp : packageFrame s.params s.ports.request with
  | ok frame =>
    rw [hp] at h
    exact .inl ⟨frame, rfl, by simpa using h.symm⟩
  | error k =>
    rw [hp] at h
    exact .inr ⟨k, rfl, by simpa using h.symm⟩

/-- What `PARSE` answers: the response delivered, or the fault taken with its correlation fields. -/
theorem execParse_eq_next {vt : BitVec 3} {s t : State} (h : execParse vt s = .next t) :
    (∃ r, parseFrame s.params s.ports.now s.window = .ok r ∧
        t = { deliver (.response r) s with pos := Config.freePos s.draws, depth := 0, stepCtr := 9 }) ∨
      ∃ k corr, parseFrame s.params s.ports.now s.window = .error (k, corr) ∧ t = takeFault k corr s := by
  unfold execParse at h
  cases hp : parseFrame s.params s.ports.now s.window with
  | ok r =>
    rw [hp] at h
    exact .inl ⟨r, rfl, by simpa using h.symm⟩
  | error e =>
    rw [hp] at h
    exact .inr ⟨e.1, e.2, rfl, by simpa using h.symm⟩

/-- A chain of checks completes exactly when its first part does and the rest does with what the first part gave. -/
theorem Except.bind_eq_ok_iff {ε α β : Type} {x : Except ε α} {f : α → Except ε β} {b : β} :
    (x >>= f) = .ok b ↔ ∃ a, x = .ok a ∧ f a = .ok b := by
  cases x with
  | ok a => simp [bind, Except.bind]
  | error e => simp [bind, Except.bind]

/-- A chain of checks fails with the first part's error, or with the rest's. -/
theorem Except.bind_eq_error_iff {ε α β : Type} {x : Except ε α} {f : α → Except ε β} {e : ε} :
    (x >>= f) = .error e ↔ x = .error e ∨ ∃ a, x = .ok a ∧ f a = .error e := by
  cases x with
  | ok a => simp [bind, Except.bind]
  | error e' => simp [bind, Except.bind]

end Sys2Proof.Machine
end

