-- ==== Sys2Proof/Laws/Parser.lean ====
section
/-! SUPPORT. Once for each operation of the prefix codec, the decoders and the parser, everything it can do. -/

namespace Sys2Proof.Machine

open Sys2Proof

/-- Mapping over a result completes exactly when the result does. -/
theorem Except.map_eq_ok_iff {ε α β : Type} {x : Except ε α} {f : α → β} {b : β} :
    x.map f = .ok b ↔ ∃ a, x = .ok a ∧ f a = b := by
  cases x with
  | ok a => simp [Except.map]
  | error e => simp [Except.map]

/-- Mapping over a result fails exactly when the result does, with the same error. -/
theorem Except.map_eq_error_iff {ε α β : Type} {x : Except ε α} {f : α → β} {e : ε} :
    x.map f = .error e ↔ x = .error e := by
  cases x with
  | ok a => simp [Except.map]
  | error e => simp [Except.map]

/-- What `VLP.DEC` gives: the first byte chooses the size, the whole prefix is in the window, and the length is the number read
less the class bias (R162). -/
theorem vlpDec_eq_ok {w : Bytes} {pos len k : Nat} :
    vlpDec w pos = .ok (len, k) ↔
      ∃ b0, memRead w pos 1 = .ok b0 ∧ k = vlpSize b0 ∧
        ∃ v, memRead w pos (vlpSize b0) = .ok v ∧ len = v - vlpBias (vlpSize b0) := by
  unfold vlpDec
  cases memRead w pos 1 with
  | error e => simp
  | ok b0 =>
    simp only [Except.ok.injEq, exists_eq_left']
    cases memRead w pos (vlpSize b0) with
    | error e => simp
    | ok v =>
      simp only [Except.ok.injEq, Prod.mk.injEq, exists_eq_left']
      exact ⟨fun ⟨h1, h2⟩ => ⟨h2.symm, h1.symm⟩, fun ⟨h1, h2⟩ => ⟨h2.symm, h1.symm⟩⟩

/-- The only way `VLP.DEC` fails. -/
theorem vlpDec_error_kind {w : Bytes} {pos : Nat} {e : ErrKind} (h : vlpDec w pos = .error e) : e = .malformedFrame := by
  unfold vlpDec at h
  cases h1 : memRead w pos 1 with
  | error k => rw [h1] at h; exact (Except.error.inj h) ▸ (memRead_eq_error.1 h1).2
  | ok b0 =>
    rw [h1] at h
    cases h2 : memRead w pos (vlpSize b0) with
    | error k => simp only [h2] at h; exact (Except.error.inj h) ▸ (memRead_eq_error.1 h2).2
    | ok v => simp only [h2] at h; cases h

/-- What a run decoder gives: the prefix, then as many bytes as it says, all in the window (R127). -/
theorem decodeRun_eq_ok {w : Bytes} {pos n : Nat} {bs : Bytes} :
    decodeRun w pos = .ok (bs, n) ↔
      ∃ len k, vlpDec w pos = .ok (len, k) ∧ memReadBytes w (pos + k) len = .ok bs ∧ n = k + len := by
  unfold decodeRun
  cases h : vlpDec w pos with
  | error e => simp
  | ok r =>
    obtain ⟨len, k⟩ := r
    simp only
    cases hb : memReadBytes w (pos + k) len with
    | error e =>
      simp only [Except.ok.injEq, Prod.mk.injEq, reduceCtorEq, false_iff, not_exists, not_and]
      rintro len' k' ⟨rfl, rfl⟩ h'
      rw [hb] at h'
      cases h'
    | ok body =>
      simp only [Except.ok.injEq, Prod.mk.injEq]
      constructor
      · rintro ⟨rfl, rfl⟩
        exact ⟨len, k, ⟨rfl, rfl⟩, hb, rfl⟩
      · rintro ⟨len', k', ⟨rfl, rfl⟩, h', rfl⟩
        rw [hb] at h'
        exact ⟨Except.ok.inj h', rfl⟩

/-- What `DecodeFP` gives: the id and its fields; then a group of what the inner decoder makes of its window, nothing in the
bare mode, or the value of the selected transcoder (R212, R215). -/
theorem decodeFP_eq_ok {p : Params} {inner : Nat → Bytes → Except ErrKind (List FunctionPoint)} {depth : Nat} {bare : Bool}
    {w : Bytes} {pos next : Nat} {fp : FunctionPoint} (h : decodeFP p inner depth bare w pos = .ok (fp, next)) :
    ∃ fid f, readFid w pos = .ok fid ∧ fidDec fid = .ok f ∧
      ((f.resourceType = .combine ∧ ∃ len k body fps, vlpDec w (pos + 2) = .ok (len, k) ∧
          memReadBytes w (pos + 2 + k) len = .ok body ∧ depthAllowed p (depth + 1) = true ∧
          inner (depth + 1) body = .ok fps ∧ fp = .mk fid f (.G (pointsOfList fps) false) ∧ next = pos + 2 + k + len) ∨
        (f.resourceType ≠ .combine ∧ bare = true ∧ fp = .mk fid f .Absent ∧ next = pos + 2) ∨
        (f.resourceType ≠ .combine ∧ bare = false ∧ ∃ t v k, valSel p fid = .ok t ∧ valDec t w (pos + 2) = .ok (v, k) ∧
          fp = .mk fid f v ∧ next = pos + 2 + k)) := by
  unfold decodeFP at h
  obtain ⟨fid, hfid, h⟩ := Except.bind_eq_ok_iff.1 h
  obtain ⟨f, hf, h⟩ := Except.bind_eq_ok_iff.1 h
  refine ⟨fid, f, hfid, hf, ?_⟩
  split at h
  · rename_i hc
    obtain ⟨⟨len, k⟩, hv, h⟩ := Except.bind_eq_ok_iff.1 h
    obtain ⟨body, hb, h⟩ := Except.bind_eq_ok_iff.1 h
    split at h
    · rename_i hd
      obtain ⟨fps, hi, h⟩ := Except.bind_eq_ok_iff.1 h
      simp only [Except.ok.injEq, Prod.mk.injEq] at h
      exact .inl ⟨hc, len, k, body, fps, hv, hb, hd, hi, h.1.symm, h.2.symm⟩
    · cases h
  · rename_i hc
    split at h
    · rename_i hbare
      simp only [Except.ok.injEq, Prod.mk.injEq] at h
      exact .inr (.inl ⟨hc, hbare, h.1.symm, h.2.symm⟩)
    · rename_i hbare
      obtain ⟨t, ht, h⟩ := Except.bind_eq_ok_iff.1 h
      obtain ⟨⟨v, k⟩, hv, h⟩ := Except.bind_eq_ok_iff.1 h
      simp only [Except.ok.injEq, Prod.mk.injEq] at h
      exact .inr (.inr ⟨hc, by simpa using hbare, t, v, k, ht, hv, h.1.symm, h.2.symm⟩)

/-- A function point takes at least two bytes (R293). -/
theorem decodeFP_advances {p : Params} {inner : Nat → Bytes → Except ErrKind (List FunctionPoint)} {depth : Nat}
    {bare : Bool} {w : Bytes} {pos next : Nat} {fp : FunctionPoint}
    (h : decodeFP p inner depth bare w pos = .ok (fp, next)) : pos + 2 ≤ next := by
  obtain ⟨fid, f, -, -, h | h | h⟩ := decodeFP_eq_ok h
  · obtain ⟨-, len, k, body, fps, -, -, -, -, -, rfl⟩ := h
    omega
  · obtain ⟨-, -, -, rfl⟩ := h
    omega
  · obtain ⟨-, -, t, v, k, -, -, -, rfl⟩ := h
    omega

/-- A function point depends on the inner decoder only through windows shorter than its own. -/
theorem decodeFP_congr {p : Params} {inner inner' : Nat → Bytes → Except ErrKind (List FunctionPoint)} {depth : Nat}
    {bare : Bool} {w : Bytes} {pos : Nat}
    (h : ∀ d body, body.length + pos + 2 ≤ w.length → inner d body = inner' d body) :
    decodeFP p inner depth bare w pos = decodeFP p inner' depth bare w pos := by
  unfold decodeFP
  simp only [bind, Except.bind]
  cases readFid w pos with
  | error e => rfl
  | ok fid =>
    simp only
    cases fidDec fid with
    | error e => rfl
    | ok f =>
      simp only
      by_cases hc : f.resourceType = .combine
      · simp only [if_pos hc]
        cases hv : vlpDec w (pos + 2) with
        | error e => rfl
        | ok r =>
          obtain ⟨len, k⟩ := r
          simp only
          cases hb : memReadBytes w (pos + 2 + k) len with
          | error e => rfl
          | ok body =>
            obtain ⟨h1, h2⟩ := memReadBytes_eq_ok.1 hb
            have hlen : body.length + pos + 2 ≤ w.length := by
              subst h2
              simp only [List.length_take, List.length_drop]
              omega
            simp only [h _ body hlen]
      · simp only [if_neg hc]

/-- A decoded list is a function point and the list after it, or the end of the window (R211). -/
theorem decodeFPList_eq_ok {p : Params} {bare : Bool} {fuel depth : Nat} {w : Bytes} {pos : Nat} {fps : List FunctionPoint}
    (h : decodeFPList p bare fuel depth w pos = .ok fps) :
    (w.length ≤ pos ∧ fps = []) ∨
      ∃ n fp next rest, fuel = n + 1 ∧ pos < w.length ∧
        decodeFP p (fun d body => decodeFPList p bare n d body 0) depth bare w pos = .ok (fp, next) ∧
        decodeFPList p bare n depth w next = .ok rest ∧ fps = fp :: rest := by
  cases fuel with
  | zero =>
    simp only [decodeFPList] at h
    split at h
    · cases h
    · exact .inl ⟨by omega, (Except.ok.inj h).symm⟩
  | succ n =>
    simp only [decodeFPList] at h
    split at h
    · rename_i hlt
      obtain ⟨⟨fp, next⟩, h1, h⟩ := Except.bind_eq_ok_iff.1 h
      obtain ⟨rest, h2, h⟩ := Except.bind_eq_ok_iff.1 h
      exact .inr ⟨n, fp, next, rest, rfl, hlt, h1, h2, (Except.ok.inj h).symm⟩
    · exact .inl ⟨by omega, (Except.ok.inj h).symm⟩

/-- A read inside a window gives the number its bytes hold. -/
theorem memRead_ok {w : Bytes} {a n : Nat} (h : a + n ≤ w.length) :
    memRead w a n = .ok (ubeNat ((w.drop a).take n)) := memRead_eq_ok.2 ⟨h, rfl⟩

/-- A single byte read at an index is the byte there. -/
theorem memRead_byte {w : Bytes} {a : Nat} {c : Byte} (hc : w[a]? = some c) : memRead w a 1 = .ok c.toNat := by
  obtain ⟨hl, hcg⟩ := List.getElem?_eq_some_iff.1 hc
  rw [memRead_ok (by omega), List.drop_eq_getElem_cons hl, hcg]
  simp [ubeNat]

/-- The base length counts the id bytes and the four bytes every frame has (R43, R203). -/
theorem msgIdSize_add_four (b0 : Byte) : msgIdSize b0 + 4 = baseLength b0 := by
  unfold baseLength msgIdSize
  split <;> rfl

/-- The two trailing bytes of a frame hold a 16-bit number. -/
theorem trailer_lt {frame : Bytes} (h : 2 ≤ frame.length) : ubeNat (frame.drop (frame.length - 2)) < 65536 := by
  have hlt := ubeNat_lt (frame.drop (frame.length - 2))
  simp only [List.length_drop] at hlt
  rw [show frame.length - (frame.length - 2) = 2 by omega] at hlt
  simpa using hlt

/-- Step 5 compares two 16-bit numbers (R205). -/
theorem crcCheck_eq {frame : Bytes} (h : 2 ≤ frame.length) :
    crcCheck frame =
      if crcBlock (frame.take (frame.length - 2)) = BitVec.ofNat 16 (ubeNat (frame.drop (frame.length - 2))) then .ok ()
      else .error .integrityError := by
  have htr : memRead frame (frame.length - 2) 2 = .ok (ubeNat (frame.drop (frame.length - 2))) := by
    rw [memRead_ok (by omega), List.take_of_length_le]
    simp only [List.length_drop]
    omega
  have hlt := trailer_lt h
  have hiff : (crcBlock (frame.take (frame.length - 2))).toNat = ubeNat (frame.drop (frame.length - 2)) ↔
      crcBlock (frame.take (frame.length - 2)) = BitVec.ofNat 16 (ubeNat (frame.drop (frame.length - 2))) := by
    constructor
    · intro h
      simp [← h]
    · intro h
      rw [h, BitVec.toNat_ofNat]
      omega
  simp only [crcCheck, htr, bind, Except.bind, hiff]

/-- Steps 1 to 5 on a frame of legal shape: the header it has, or `IntegrityError`, as the CRC says (R201 to R205). -/
theorem parseHeader_eq {frame : Bytes} {b0 c : Byte} (h0 : frame[0]? = some b0) (h1 : b0 ≠ 0x00) (h2 : b0 ≠ 0x80)
    (h3 : baseLength b0 ≤ frame.length) (hc : frame[1 + msgIdSize b0]? = some c)
    (h4 : (if tightened c = true then baseLength b0 + 2 else baseLength b0) ≤ frame.length) :
    parseHeader frame =
      if crcBlock (frame.take (frame.length - 2)) = BitVec.ofNat 16 (ubeNat (frame.drop (frame.length - 2))) then
        .ok
          { first := b0
            msgId := if hasMsgId b0 = true then some (BitVec.ofNat 32 (ubeNat ((frame.drop 1).take 4))) else none
            opcode := c }
      else .error .integrityError := by
  have hbm := msgIdSize_add_four b0
  have hs : shapeCheck frame = .ok b0 := by
    cases frame with
    | nil => simp at h0
    | cons x xs =>
      obtain rfl : x = b0 := by simpa using h0
      exact if_neg fun h => h.elim h1 h2
  have hid : readMsgId frame b0 =
      .ok (if hasMsgId b0 = true then some (BitVec.ofNat 32 (ubeNat ((frame.drop 1).take 4))) else none) := by
    unfold readMsgId
    split
    · rename_i hh
      have hb : baseLength b0 = 8 := by simp [baseLength, hh]
      rw [memRead_ok (by omega)]
      rfl
    · rfl
  unfold parseHeader
  simp only [hs, memRead_byte hc, hid, bind, Except.bind, requireLength, crcCheck_eq (show 2 ≤ frame.length by omega)]
  rw [if_neg (by omega)]
  simp only [BitVec.ofNat_toNat, BitVec.setWidth_eq]
  rw [if_neg (by omega)]
  by_cases hx : crcBlock (frame.take (frame.length - 2)) = BitVec.ofNat 16 (ubeNat (frame.drop (frame.length - 2)))
  · rw [if_pos hx, if_pos hx]
  · rw [if_neg hx, if_neg hx]

/-- What steps 1 to 5 have checked when they give a header. -/
theorem parseHeader_eq_ok {frame : Bytes} {h : Header} (hp : parseHeader frame = .ok h) :
    frame[0]? = some h.first ∧ h.first ≠ 0x00 ∧ h.first ≠ 0x80 ∧ baseLength h.first ≤ frame.length ∧
      frame[1 + msgIdSize h.first]? = some h.opcode ∧
      (if tightened h.opcode = true then baseLength h.first + 2 else baseLength h.first) ≤ frame.length := by
  unfold parseHeader at hp
  obtain ⟨b0, hs, hp⟩ := Except.bind_eq_ok_iff.1 hp
  obtain ⟨_, hl, hp⟩ := Except.bind_eq_ok_iff.1 hp
  obtain ⟨v, hv, hp⟩ := Except.bind_eq_ok_iff.1 hp
  obtain ⟨_, ht, hp⟩ := Except.bind_eq_ok_iff.1 hp
  obtain ⟨id, -, hp⟩ := Except.bind_eq_ok_iff.1 hp
  obtain ⟨-, -, hp⟩ := Except.bind_eq_ok_iff.1 hp
  obtain rfl := Except.ok.inj hp
  have hbound : ∀ n bound, requireLength n bound = .ok () → bound ≤ n := by
    intro n bound hr
    unfold requireLength at hr
    split at hr
    · cases hr
    · omega
  have hread := (memRead_eq_ok.1 hv).1
  have hget : frame[1 + msgIdSize b0]? = some frame[1 + msgIdSize b0] := List.getElem?_eq_getElem (by omega)
  have hv' : v = (frame[1 + msgIdSize b0]).toNat := Except.ok.inj (hv.symm.trans (memRead_byte hget))
  have hop : (BitVec.ofNat 8 v : Byte) = frame[1 + msgIdSize b0] := by simp [hv']
  have hfirst : frame[0]? = some b0 ∧ b0 ≠ 0x00 ∧ b0 ≠ 0x80 := by
    cases frame with
    | nil => cases hs
    | cons x xs =>
      simp only [shapeCheck] at hs
      split at hs
      · cases hs
      · rename_i hne
        obtain rfl := Except.ok.inj hs
        exact ⟨rfl, fun h => hne (.inl h), fun h => hne (.inr h)⟩
  exact ⟨hfirst.1, hfirst.2.1, hfirst.2.2, hbound _ _ hl, by rw [hget]; exact congrArg some hop.symm, hbound _ _ ht⟩

end Sys2Proof.Machine
end

