-- ==== Sys2Proof/Laws/PerInstr.lean ====
section
/-! SUPPORT. The family `EncodedSize`, one lemma per constructor of `Instr`: how many bytes the word of an instruction has. -/

namespace Sys2Proof.Laws

/-- A word has the size of its format (spec/30_encoding.md R60): one byte, two for a function id, one to four for a prefix. -/
def EncodedSize.Statement (i : Instr) : Prop :=
  match i.format with
  | .cmdw | .opc8 | .opcset | .ver | .errkind => (encode i).length = 1
  | .fidDataType | .fidFunctionType | .fidResourceType | .fidMarker => (encode i).length = 2
  | .vlp => 1 ≤ (encode i).length ∧ (encode i).length ≤ 4

theorem EncodedSize.crcInit (vt : BitVec 3) : EncodedSize.Statement (.crcInit vt) := rfl
theorem EncodedSize.crcByte (vt : BitVec 3) : EncodedSize.Statement (.crcByte vt) := rfl
theorem EncodedSize.crcBlock (vt : BitVec 3) : EncodedSize.Statement (.crcBlock vt) := rfl
theorem EncodedSize.valEncBoolean : EncodedSize.Statement .valEncBoolean := rfl
theorem EncodedSize.valEncEnum : EncodedSize.Statement .valEncEnum := rfl
theorem EncodedSize.valEncInteger : EncodedSize.Statement .valEncInteger := rfl
theorem EncodedSize.valEncFloat : EncodedSize.Statement .valEncFloat := rfl
theorem EncodedSize.valEncBuffer : EncodedSize.Statement .valEncBuffer := rfl
theorem EncodedSize.valEncException : EncodedSize.Statement .valEncException := rfl
theorem EncodedSize.valEncString : EncodedSize.Statement .valEncString := rfl
theorem EncodedSize.valEncJson : EncodedSize.Statement .valEncJson := rfl
theorem EncodedSize.valDecBoolean : EncodedSize.Statement .valDecBoolean := rfl
theorem EncodedSize.valDecEnum : EncodedSize.Statement .valDecEnum := rfl
theorem EncodedSize.valDecInteger : EncodedSize.Statement .valDecInteger := rfl
theorem EncodedSize.valDecFloat : EncodedSize.Statement .valDecFloat := rfl
theorem EncodedSize.valDecBuffer : EncodedSize.Statement .valDecBuffer := rfl
theorem EncodedSize.valDecException : EncodedSize.Statement .valDecException := rfl
theorem EncodedSize.valDecString : EncodedSize.Statement .valDecString := rfl
theorem EncodedSize.valDecJson : EncodedSize.Statement .valDecJson := rfl
theorem EncodedSize.valSel (vt : BitVec 3) : EncodedSize.Statement (.valSel vt) := rfl
theorem EncodedSize.fidEnc (vt : BitVec 3) : EncodedSize.Statement (.fidEnc vt) := rfl
theorem EncodedSize.fidDec (vt : BitVec 3) : EncodedSize.Statement (.fidDec vt) := rfl
theorem EncodedSize.opcEnc (vt : BitVec 3) : EncodedSize.Statement (.opcEnc vt) := rfl
theorem EncodedSize.opcDec (vt : BitVec 3) : EncodedSize.Statement (.opcDec vt) := rfl
theorem EncodedSize.vlpEnc (vt : BitVec 3) : EncodedSize.Statement (.vlpEnc vt) := rfl
theorem EncodedSize.vlpDec (vt : BitVec 3) : EncodedSize.Statement (.vlpDec vt) := rfl
theorem EncodedSize.pkg (vt : BitVec 3) : EncodedSize.Statement (.pkg vt) := rfl
theorem EncodedSize.parse (vt : BitVec 3) : EncodedSize.Statement (.parse vt) := rfl
theorem EncodedSize.cmdReservedE (vt : BitVec 3) : EncodedSize.Statement (.cmdReservedE vt) := rfl
theorem EncodedSize.cmdReservedF (vt : BitVec 3) : EncodedSize.Statement (.cmdReservedF vt) := rfl
theorem EncodedSize.opc8Resource00NotifyDefault (operation : BitVec 1) (type : BitVec 1) :
    EncodedSize.Statement (.opc8Resource00NotifyDefault operation type) := rfl
theorem EncodedSize.opc8Resource01Read (operation : BitVec 1) (type : BitVec 1) :
    EncodedSize.Statement (.opc8Resource01Read operation type) := rfl
theorem EncodedSize.opc8Resource02Write (operation : BitVec 1) (type : BitVec 1) :
    EncodedSize.Statement (.opc8Resource02Write operation type) := rfl
theorem EncodedSize.opc8Resource03Notify (operation : BitVec 1) (type : BitVec 1) :
    EncodedSize.Statement (.opc8Resource03Notify operation type) := rfl
theorem EncodedSize.opc8Resource04NotifyDefault (operation : BitVec 1) (type : BitVec 1) :
    EncodedSize.Statement (.opc8Resource04NotifyDefault operation type) := rfl
theorem EncodedSize.opc8Resource05NotifyDefault (operation : BitVec 1) (type : BitVec 1) :
    EncodedSize.Statement (.opc8Resource05NotifyDefault operation type) := rfl
theorem EncodedSize.opc8Resource06NotifyDefault (operation : BitVec 1) (type : BitVec 1) :
    EncodedSize.Statement (.opc8Resource06NotifyDefault operation type) := rfl
theorem EncodedSize.opc8Resource07NotifyDefault (operation : BitVec 1) (type : BitVec 1) :
    EncodedSize.Statement (.opc8Resource07NotifyDefault operation type) := rfl
theorem EncodedSize.opc8Resource08NotifyDefault (operation : BitVec 1) (type : BitVec 1) :
    EncodedSize.Statement (.opc8Resource08NotifyDefault operation type) := rfl
theorem EncodedSize.opc8Resource09NotifyDefault (operation : BitVec 1) (type : BitVec 1) :
    EncodedSize.Statement (.opc8Resource09NotifyDefault operation type) := rfl
theorem EncodedSize.opc8Resource0aNotifyDefault (operation : BitVec 1) (type : BitVec 1) :
    EncodedSize.Statement (.opc8Resource0aNotifyDefault operation type) := rfl
theorem EncodedSize.opc8Resource0bNotifyDefault (operation : BitVec 1) (type : BitVec 1) :
    EncodedSize.Statement (.opc8Resource0bNotifyDefault operation type) := rfl
theorem EncodedSize.opc8Resource0cNotifyDefault (operation : BitVec 1) (type : BitVec 1) :
    EncodedSize.Statement (.opc8Resource0cNotifyDefault operation type) := rfl
theorem EncodedSize.opc8Resource0dNotifyDefault (operation : BitVec 1) (type : BitVec 1) :
    EncodedSize.Statement (.opc8Resource0dNotifyDefault operation type) := rfl
theorem EncodedSize.opc8Resource0eNotifyDefault (operation : BitVec 1) (type : BitVec 1) :
    EncodedSize.Statement (.opc8Resource0eNotifyDefault operation type) := rfl
theorem EncodedSize.opc8Resource0fNotifyDefault (operation : BitVec 1) (type : BitVec 1) :
    EncodedSize.Statement (.opc8Resource0fNotifyDefault operation type) := rfl
theorem EncodedSize.opc8Resource10NotifyDefault (operation : BitVec 1) (type : BitVec 1) :
    EncodedSize.Statement (.opc8Resource10NotifyDefault operation type) := rfl
theorem EncodedSize.opc8Resource11NotifyDefault (operation : BitVec 1) (type : BitVec 1) :
    EncodedSize.Statement (.opc8Resource11NotifyDefault operation type) := rfl
theorem EncodedSize.opc8Resource12NotifyDefault (operation : BitVec 1) (type : BitVec 1) :
    EncodedSize.Statement (.opc8Resource12NotifyDefault operation type) := rfl
theorem EncodedSize.opc8Resource13NotifyDefault (operation : BitVec 1) (type : BitVec 1) :
    EncodedSize.Statement (.opc8Resource13NotifyDefault operation type) := rfl
theorem EncodedSize.opc8Resource14NotifyDefault (operation : BitVec 1) (type : BitVec 1) :
    EncodedSize.Statement (.opc8Resource14NotifyDefault operation type) := rfl
theorem EncodedSize.opc8Resource15NotifyDefault (operation : BitVec 1) (type : BitVec 1) :
    EncodedSize.Statement (.opc8Resource15NotifyDefault operation type) := rfl
theorem EncodedSize.opc8Resource16NotifyDefault (operation : BitVec 1) (type : BitVec 1) :
    EncodedSize.Statement (.opc8Resource16NotifyDefault operation type) := rfl
theorem EncodedSize.opc8Resource17NotifyDefault (operation : BitVec 1) (type : BitVec 1) :
    EncodedSize.Statement (.opc8Resource17NotifyDefault operation type) := rfl
theorem EncodedSize.opc8Resource18NotifyDefault (operation : BitVec 1) (type : BitVec 1) :
    EncodedSize.Statement (.opc8Resource18NotifyDefault operation type) := rfl
theorem EncodedSize.opc8Resource19NotifyDefault (operation : BitVec 1) (type : BitVec 1) :
    EncodedSize.Statement (.opc8Resource19NotifyDefault operation type) := rfl
theorem EncodedSize.opc8Resource1aNotifyDefault (operation : BitVec 1) (type : BitVec 1) :
    EncodedSize.Statement (.opc8Resource1aNotifyDefault operation type) := rfl
theorem EncodedSize.opc8Resource1bNotifyDefault (operation : BitVec 1) (type : BitVec 1) :
    EncodedSize.Statement (.opc8Resource1bNotifyDefault operation type) := rfl
theorem EncodedSize.opc8Resource1cNotifyDefault (operation : BitVec 1) (type : BitVec 1) :
    EncodedSize.Statement (.opc8Resource1cNotifyDefault operation type) := rfl
theorem EncodedSize.opc8Resource1dNotifyDefault (operation : BitVec 1) (type : BitVec 1) :
    EncodedSize.Statement (.opc8Resource1dNotifyDefault operation type) := rfl
theorem EncodedSize.opc8Resource1eNotifyDefault (operation : BitVec 1) (type : BitVec 1) :
    EncodedSize.Statement (.opc8Resource1eNotifyDefault operation type) := rfl
theorem EncodedSize.opc8Resource1fNotifyDefault (operation : BitVec 1) (type : BitVec 1) :
    EncodedSize.Statement (.opc8Resource1fNotifyDefault operation type) := rfl
theorem EncodedSize.opc8System00Reset (operation : BitVec 1) (type : BitVec 1) :
    EncodedSize.Statement (.opc8System00Reset operation type) := rfl
theorem EncodedSize.opc8System01Recovery (operation : BitVec 1) (type : BitVec 1) :
    EncodedSize.Statement (.opc8System01Recovery operation type) := rfl
theorem EncodedSize.opc8System02RegisterDefault (operation : BitVec 1) (type : BitVec 1) :
    EncodedSize.Statement (.opc8System02RegisterDefault operation type) := rfl
theorem EncodedSize.opc8System03Deregister (operation : BitVec 1) (type : BitVec 1) :
    EncodedSize.Statement (.opc8System03Deregister operation type) := rfl
theorem EncodedSize.opc8System04Enable (operation : BitVec 1) (type : BitVec 1) :
    EncodedSize.Statement (.opc8System04Enable operation type) := rfl
theorem EncodedSize.opc8System05Disable (operation : BitVec 1) (type : BitVec 1) :
    EncodedSize.Statement (.opc8System05Disable operation type) := rfl
theorem EncodedSize.opc8System06Label (operation : BitVec 1) (type : BitVec 1) :
    EncodedSize.Statement (.opc8System06Label operation type) := rfl
theorem EncodedSize.opc8System07Upgrade (operation : BitVec 1) (type : BitVec 1) :
    EncodedSize.Statement (.opc8System07Upgrade operation type) := rfl
theorem EncodedSize.opc8System08RegisterDefault (operation : BitVec 1) (type : BitVec 1) :
    EncodedSize.Statement (.opc8System08RegisterDefault operation type) := rfl
theorem EncodedSize.opc8System09RegisterDefault (operation : BitVec 1) (type : BitVec 1) :
    EncodedSize.Statement (.opc8System09RegisterDefault operation type) := rfl
theorem EncodedSize.opc8System0aRegisterDefault (operation : BitVec 1) (type : BitVec 1) :
    EncodedSize.Statement (.opc8System0aRegisterDefault operation type) := rfl
theorem EncodedSize.opc8System0bRegisterDefault (operation : BitVec 1) (type : BitVec 1) :
    EncodedSize.Statement (.opc8System0bRegisterDefault operation type) := rfl
theorem EncodedSize.opc8System0cRegisterDefault (operation : BitVec 1) (type : BitVec 1) :
    EncodedSize.Statement (.opc8System0cRegisterDefault operation type) := rfl
theorem EncodedSize.opc8System0dRegisterDefault (operation : BitVec 1) (type : BitVec 1) :
    EncodedSize.Statement (.opc8System0dRegisterDefault operation type) := rfl
theorem EncodedSize.opc8System0eRegisterDefault (operation : BitVec 1) (type : BitVec 1) :
    EncodedSize.Statement (.opc8System0eRegisterDefault operation type) := rfl
theorem EncodedSize.opc8System0fRegisterDefault (operation : BitVec 1) (type : BitVec 1) :
    EncodedSize.Statement (.opc8System0fRegisterDefault operation type) := rfl
theorem EncodedSize.opc8System10RegisterDefault (operation : BitVec 1) (type : BitVec 1) :
    EncodedSize.Statement (.opc8System10RegisterDefault operation type) := rfl
theorem EncodedSize.opc8System11RegisterDefault (operation : BitVec 1) (type : BitVec 1) :
    EncodedSize.Statement (.opc8System11RegisterDefault operation type) := rfl
theorem EncodedSize.opc8System12RegisterDefault (operation : BitVec 1) (type : BitVec 1) :
    EncodedSize.Statement (.opc8System12RegisterDefault operation type) := rfl
theorem EncodedSize.opc8System13RegisterDefault (operation : BitVec 1) (type : BitVec 1) :
    EncodedSize.Statement (.opc8System13RegisterDefault operation type) := rfl
theorem EncodedSize.opc8System14RegisterDefault (operation : BitVec 1) (type : BitVec 1) :
    EncodedSize.Statement (.opc8System14RegisterDefault operation type) := rfl
theorem EncodedSize.opc8System15RegisterDefault (operation : BitVec 1) (type : BitVec 1) :
    EncodedSize.Statement (.opc8System15RegisterDefault operation type) := rfl
theorem EncodedSize.opc8System16RegisterDefault (operation : BitVec 1) (type : BitVec 1) :
    EncodedSize.Statement (.opc8System16RegisterDefault operation type) := rfl
theorem EncodedSize.opc8System17RegisterDefault (operation : BitVec 1) (type : BitVec 1) :
    EncodedSize.Statement (.opc8System17RegisterDefault operation type) := rfl
theorem EncodedSize.opc8System18RegisterDefault (operation : BitVec 1) (type : BitVec 1) :
    EncodedSize.Statement (.opc8System18RegisterDefault operation type) := rfl
theorem EncodedSize.opc8System19RegisterDefault (operation : BitVec 1) (type : BitVec 1) :
    EncodedSize.Statement (.opc8System19RegisterDefault operation type) := rfl
theorem EncodedSize.opc8System1aRegisterDefault (operation : BitVec 1) (type : BitVec 1) :
    EncodedSize.Statement (.opc8System1aRegisterDefault operation type) := rfl
theorem EncodedSize.opc8System1bRegisterDefault (operation : BitVec 1) (type : BitVec 1) :
    EncodedSize.Statement (.opc8System1bRegisterDefault operation type) := rfl
theorem EncodedSize.opc8System1cRegisterDefault (operation : BitVec 1) (type : BitVec 1) :
    EncodedSize.Statement (.opc8System1cRegisterDefault operation type) := rfl
theorem EncodedSize.opc8System1dDeleteTopology (operation : BitVec 1) (type : BitVec 1) :
    EncodedSize.Statement (.opc8System1dDeleteTopology operation type) := rfl
theorem EncodedSize.opc8System1eOffline (operation : BitVec 1) (type : BitVec 1) :
    EncodedSize.Statement (.opc8System1eOffline operation type) := rfl
theorem EncodedSize.opc8System1fOnline (operation : BitVec 1) (type : BitVec 1) :
    EncodedSize.Statement (.opc8System1fOnline operation type) := rfl
theorem EncodedSize.opcsetBareReadCode01 : EncodedSize.Statement .opcsetBareReadCode01 := rfl
theorem EncodedSize.opcsetModebN2Code7f : EncodedSize.Statement .opcsetModebN2Code7f := rfl
theorem EncodedSize.opcsetModebN2Code7e : EncodedSize.Statement .opcsetModebN2Code7e := rfl
theorem EncodedSize.opcsetModebN2Code64 : EncodedSize.Statement .opcsetModebN2Code64 := rfl
theorem EncodedSize.opcsetModebN2Code65 : EncodedSize.Statement .opcsetModebN2Code65 := rfl
theorem EncodedSize.opcsetModebN3Code62 : EncodedSize.Statement .opcsetModebN3Code62 := rfl
theorem EncodedSize.opcsetModebN3Code63 : EncodedSize.Statement .opcsetModebN3Code63 := rfl
theorem EncodedSize.opcsetModebN3LastbareCode41 : EncodedSize.Statement .opcsetModebN3LastbareCode41 := rfl
theorem EncodedSize.opcsetModebN3LastbareCodec2 : EncodedSize.Statement .opcsetModebN3LastbareCodec2 := rfl
theorem EncodedSize.opcsetModeaFlattenCode43 : EncodedSize.Statement .opcsetModeaFlattenCode43 := rfl
theorem EncodedSize.opcsetModeaFlattenCodec1 : EncodedSize.Statement .opcsetModeaFlattenCodec1 := rfl
theorem EncodedSize.opcsetModeaDefault (operation : BitVec 1) (low : BitVec 6) :
    EncodedSize.Statement (.opcsetModeaDefault operation low) := rfl
theorem EncodedSize.opcsetDeviceDefault (operation : BitVec 1) (low : BitVec 6) :
    EncodedSize.Statement (.opcsetDeviceDefault operation low) := rfl
theorem EncodedSize.fid16DataType0Reserved (functionType : BitVec 2) (resourceId : BitVec 11) :
    EncodedSize.Statement (.fid16DataType0Reserved functionType resourceId) := rfl
theorem EncodedSize.fid16DataType1Boolean (functionType : BitVec 2) (resourceId : BitVec 11) :
    EncodedSize.Statement (.fid16DataType1Boolean functionType resourceId) := rfl
theorem EncodedSize.fid16DataType2Enum (functionType : BitVec 2) (resourceId : BitVec 11) :
    EncodedSize.Statement (.fid16DataType2Enum functionType resourceId) := rfl
theorem EncodedSize.fid16DataType3Integer (functionType : BitVec 2) (resourceId : BitVec 11) :
    EncodedSize.Statement (.fid16DataType3Integer functionType resourceId) := rfl
theorem EncodedSize.fid16DataType4Float (functionType : BitVec 2) (resourceId : BitVec 11) :
    EncodedSize.Statement (.fid16DataType4Float functionType resourceId) := rfl
theorem EncodedSize.fid16DataType5Buffer (functionType : BitVec 2) (resourceId : BitVec 11) :
    EncodedSize.Statement (.fid16DataType5Buffer functionType resourceId) := rfl
theorem EncodedSize.fid16DataType6Exception (functionType : BitVec 2) (resourceId : BitVec 11) :
    EncodedSize.Statement (.fid16DataType6Exception functionType resourceId) := rfl
theorem EncodedSize.fid16DataType7String (functionType : BitVec 2) (resourceId : BitVec 11) :
    EncodedSize.Statement (.fid16DataType7String functionType resourceId) := rfl
theorem EncodedSize.fid16FunctionType0Reserve (dataType : BitVec 3) (resourceId : BitVec 11) :
    EncodedSize.Statement (.fid16FunctionType0Reserve dataType resourceId) := rfl
theorem EncodedSize.fid16FunctionType1Custom (dataType : BitVec 3) (resourceId : BitVec 11) :
    EncodedSize.Statement (.fid16FunctionType1Custom dataType resourceId) := rfl
theorem EncodedSize.fid16FunctionType2Property (dataType : BitVec 3) (resourceId : BitVec 11) :
    EncodedSize.Statement (.fid16FunctionType2Property dataType resourceId) := rfl
theorem EncodedSize.fid16FunctionType3Event (dataType : BitVec 3) (resourceId : BitVec 11) :
    EncodedSize.Statement (.fid16FunctionType3Event dataType resourceId) := rfl
theorem EncodedSize.fid16ResourceTypeCommon000To3ff (dataType : BitVec 3) (functionType : BitVec 2) (low : BitVec 10) :
    EncodedSize.Statement (.fid16ResourceTypeCommon000To3ff dataType functionType low) := rfl
theorem EncodedSize.fid16ResourceTypeCommon400To4ff (dataType : BitVec 3) (functionType : BitVec 2) (low : BitVec 8) :
    EncodedSize.Statement (.fid16ResourceTypeCommon400To4ff dataType functionType low) := rfl
theorem EncodedSize.fid16ResourceTypeCombine500To5ff (dataType : BitVec 3) (functionType : BitVec 2) (low : BitVec 8) :
    EncodedSize.Statement (.fid16ResourceTypeCombine500To5ff dataType functionType low) := rfl
theorem EncodedSize.fid16ResourceTypeCombine600To6ff (dataType : BitVec 3) (functionType : BitVec 2) (low : BitVec 8) :
    EncodedSize.Statement (.fid16ResourceTypeCombine600To6ff dataType functionType low) := rfl
theorem EncodedSize.fid16ResourceTypeStatic700To7ff (dataType : BitVec 3) (functionType : BitVec 2) (low : BitVec 8) :
    EncodedSize.Statement (.fid16ResourceTypeStatic700To7ff dataType functionType low) := rfl
theorem EncodedSize.fid16MarkerE801NewGroup : EncodedSize.Statement .fid16MarkerE801NewGroup := rfl
theorem EncodedSize.fid16MarkerE803Time : EncodedSize.Statement .fid16MarkerE803Time := rfl
theorem EncodedSize.vlpClass1 (len : BitVec 6) :
    EncodedSize.Statement (.vlpClass1 len) := ⟨Nat.le_of_ble_eq_true rfl, Nat.le_of_ble_eq_true rfl⟩
theorem EncodedSize.vlpClass2 (len : BitVec 14) :
    EncodedSize.Statement (.vlpClass2 len) := ⟨Nat.le_of_ble_eq_true rfl, Nat.le_of_ble_eq_true rfl⟩
theorem EncodedSize.vlpClass3 (len : BitVec 22) :
    EncodedSize.Statement (.vlpClass3 len) := ⟨Nat.le_of_ble_eq_true rfl, Nat.le_of_ble_eq_true rfl⟩
theorem EncodedSize.vlpClass4 (len : BitVec 30) :
    EncodedSize.Statement (.vlpClass4 len) := ⟨Nat.le_of_ble_eq_true rfl, Nat.le_of_ble_eq_true rfl⟩
theorem EncodedSize.verIllegal00 : EncodedSize.Statement .verIllegal00 := rfl
theorem EncodedSize.verIllegal80 : EncodedSize.Statement .verIllegal80 := rfl
theorem EncodedSize.verNoMsgId (rawVersion : BitVec 7) : EncodedSize.Statement (.verNoMsgId rawVersion) := rfl
theorem EncodedSize.verWithMsgId (rawVersion : BitVec 7) : EncodedSize.Statement (.verWithMsgId rawVersion) := rfl
theorem EncodedSize.errkind1MalformedFrame : EncodedSize.Statement .errkind1MalformedFrame := rfl
theorem EncodedSize.errkind2IntegrityError : EncodedSize.Statement .errkind2IntegrityError := rfl
theorem EncodedSize.errkind3UnknownDataType : EncodedSize.Statement .errkind3UnknownDataType := rfl
theorem EncodedSize.errkind4ValueOutOfRange : EncodedSize.Statement .errkind4ValueOutOfRange := rfl
theorem EncodedSize.errkind5TypeMismatch : EncodedSize.Statement .errkind5TypeMismatch := rfl
theorem EncodedSize.errkind6ArityError : EncodedSize.Statement .errkind6ArityError := rfl
theorem EncodedSize.errkind7JsonParseError : EncodedSize.Statement .errkind7JsonParseError := rfl
theorem EncodedSize.errkind8MissingField : EncodedSize.Statement .errkind8MissingField := rfl

end Sys2Proof.Laws
end

