-- ==== Sys2Proof/Tests/Slice0.lean ====
section
/-! SUPPORT. Tests. Expected values are those of spec/95_test_vectors.md (each test names its vector) or of the tables of
spec/30_encoding.md; the witnesses at the end show, for each statement that has hypotheses, a concrete state and operands that
meet them all. -/

namespace Sys2Proof.Tests

open Sys2Proof Sys2Proof.Machine

/-! ### Ill-formed terms -/

/-- A named sub-device code is no mode A default (R69): 0x41 has a row of its own. -/
theorem test_wellFormed_modeaDefault_named : Instr.wellFormed (.opcsetModeaDefault 0 1) = false := by decide

/-- The bare READ code 0x01 is no device default (R69). -/
theorem test_wellFormed_deviceDefault_bare : Instr.wellFormed (.opcsetDeviceDefault 0 1) = false := by decide

/-- First byte 0x00 is illegal (R64). -/
theorem test_wellFormed_verNoMsgId_zero : Instr.wellFormed (.verNoMsgId 0) = false := by decide

/-- First byte 0x80 is illegal (R64). -/
theorem test_wellFormed_verWithMsgId_zero : Instr.wellFormed (.verWithMsgId 0) = false := by decide

/-- The neighbours of the ill-formed terms are well formed. -/
theorem test_wellFormed_neighbours :
    [Instr.opcsetModeaDefault 1 1, .opcsetModeaDefault 0 0, .opcsetDeviceDefault 1 1, .opcsetDeviceDefault 0 0,
      .verNoMsgId 1, .verWithMsgId 127].all Instr.wellFormed = false ∧
    [Instr.opcsetModeaDefault 1 3, .opcsetModeaDefault 0 0, .opcsetDeviceDefault 1 1, .opcsetDeviceDefault 0 0,
      .verNoMsgId 1, .verWithMsgId 127].all Instr.wellFormed = true := by decide

/-! ### Decoding: every row -/

/-- Rows of `cmdw`: the word of each, written from the encoding of spec/30_encoding.md, decodes to its instruction. -/
theorem test_decode_cmdw_0 :
    ([([0b00000011], (.crcInit 3)),
      ([0b00001001], (.crcByte 1)),
      ([0b00010110], (.crcBlock 6)),
      ([0b00011000], .valEncBoolean),
      ([0b00011001], .valEncEnum),
      ([0b00011010], .valEncInteger),
      ([0b00011011], .valEncFloat),
      ([0b00011100], .valEncBuffer),
      ([0b00011101], .valEncException),
      ([0b00011110], .valEncString),
      ([0b00011111], .valEncJson),
      ([0b00100000], .valDecBoolean),
      ([0b00100001], .valDecEnum),
      ([0b00100010], .valDecInteger),
      ([0b00100011], .valDecFloat),
      ([0b00100100], .valDecBuffer)] :
      List (Bytes × Instr)).all (fun e => decode .cmdw e.1 = .ok e.2) = true := by decide

/-- Rows of `cmdw`: the word of each, written from the encoding of spec/30_encoding.md, decodes to its instruction. -/
theorem test_decode_cmdw_1 :
    ([([0b00100101], .valDecException),
      ([0b00100110], .valDecString),
      ([0b00100111], .valDecJson),
      ([0b00101101], (.valSel 5)),
      ([0b00110011], (.fidEnc 3)),
      ([0b00111001], (.fidDec 1)),
      ([0b01000110], (.opcEnc 6)),
      ([0b01001010], (.opcDec 2)),
      ([0b01010011], (.vlpEnc 3)),
      ([0b01011010], (.vlpDec 2)),
      ([0b01100101], (.pkg 5)),
      ([0b01101100], (.parse 4)),
      ([0b01110111], (.cmdReservedE 7)),
      ([0b01111101], (.cmdReservedF 5))] :
      List (Bytes × Instr)).all (fun e => decode .cmdw e.1 = .ok e.2) = true := by decide

/-- Rows of `opc8`: the word of each, written from the encoding of spec/30_encoding.md, decodes to its instruction. -/
theorem test_decode_opc8_0 :
    ([([0b11000000], (.opc8Resource00NotifyDefault 1 1)),
      ([0b11000001], (.opc8Resource01Read 1 1)),
      ([0b00000010], (.opc8Resource02Write 0 0)),
      ([0b00000011], (.opc8Resource03Notify 0 0)),
      ([0b11000100], (.opc8Resource04NotifyDefault 1 1)),
      ([0b00000101], (.opc8Resource05NotifyDefault 0 0)),
      ([0b11000110], (.opc8Resource06NotifyDefault 1 1)),
      ([0b00000111], (.opc8Resource07NotifyDefault 0 0)),
      ([0b11001000], (.opc8Resource08NotifyDefault 1 1)),
      ([0b11001001], (.opc8Resource09NotifyDefault 1 1)),
      ([0b11001010], (.opc8Resource0aNotifyDefault 1 1)),
      ([0b11001011], (.opc8Resource0bNotifyDefault 1 1)),
      ([0b00001100], (.opc8Resource0cNotifyDefault 0 0)),
      ([0b00001101], (.opc8Resource0dNotifyDefault 0 0)),
      ([0b11001110], (.opc8Resource0eNotifyDefault 1 1)),
      ([0b00001111], (.opc8Resource0fNotifyDefault 0 0))] :
      List (Bytes × Instr)).all (fun e => decode .opc8 e.1 = .ok e.2) = true := by decide

/-- Rows of `opc8`: the word of each, written from the encoding of spec/30_encoding.md, decodes to its instruction. -/
theorem test_decode_opc8_1 :
    ([([0b11010000], (.opc8Resource10NotifyDefault 1 1)),
      ([0b00010001], (.opc8Resource11NotifyDefault 0 0)),
      ([0b11010010], (.opc8Resource12NotifyDefault 1 1)),
      ([0b11010011], (.opc8Resource13NotifyDefault 1 1)),
      ([0b11010100], (.opc8Resource14NotifyDefault 1 1)),
      ([0b11010101], (.opc8Resource15NotifyDefault 1 1)),
      ([0b00010110], (.opc8Resource16NotifyDefault 0 0)),
      ([0b00010111], (.opc8Resource17NotifyDefault 0 0)),
      ([0b11011000], (.opc8Resource18NotifyDefault 1 1)),
      ([0b00011001], (.opc8Resource19NotifyDefault 0 0)),
      ([0b11011010], (.opc8Resource1aNotifyDefault 1 1)),
      ([0b00011011], (.opc8Resource1bNotifyDefault 0 0)),
      ([0b11011100], (.opc8Resource1cNotifyDefault 1 1)),
      ([0b11011101], (.opc8Resource1dNotifyDefault 1 1)),
      ([0b11011110], (.opc8Resource1eNotifyDefault 1 1)),
      ([0b11011111], (.opc8Resource1fNotifyDefault 1 1))] :
      List (Bytes × Instr)).all (fun e => decode .opc8 e.1 = .ok e.2) = true := by decide

/-- Rows of `opc8`: the word of each, written from the encoding of spec/30_encoding.md, decodes to its instruction. -/
theorem test_decode_opc8_2 :
    ([([0b00100000], (.opc8System00Reset 0 0)),
      ([0b00100001], (.opc8System01Recovery 0 0)),
      ([0b11100010], (.opc8System02RegisterDefault 1 1)),
      ([0b00100011], (.opc8System03Deregister 0 0)),
      ([0b11100100], (.opc8System04Enable 1 1)),
      ([0b00100101], (.opc8System05Disable 0 0)),
      ([0b11100110], (.opc8System06Label 1 1)),
      ([0b11100111], (.opc8System07Upgrade 1 1)),
      ([0b11101000], (.opc8System08RegisterDefault 1 1)),
      ([0b11101001], (.opc8System09RegisterDefault 1 1)),
      ([0b00101010], (.opc8System0aRegisterDefault 0 0)),
      ([0b00101011], (.opc8System0bRegisterDefault 0 0)),
      ([0b11101100], (.opc8System0cRegisterDefault 1 1)),
      ([0b00101101], (.opc8System0dRegisterDefault 0 0)),
      ([0b11101110], (.opc8System0eRegisterDefault 1 1)),
      ([0b00101111], (.opc8System0fRegisterDefault 0 0))] :
      List (Bytes × Instr)).all (fun e => decode .opc8 e.1 = .ok e.2) = true := by decide

/-- Rows of `opc8`: the word of each, written from the encoding of spec/30_encoding.md, decodes to its instruction. -/
theorem test_decode_opc8_3 :
    ([([0b11110000], (.opc8System10RegisterDefault 1 1)),
      ([0b11110001], (.opc8System11RegisterDefault 1 1)),
      ([0b11110010], (.opc8System12RegisterDefault 1 1)),
      ([0b11110011], (.opc8System13RegisterDefault 1 1)),
      ([0b00110100], (.opc8System14RegisterDefault 0 0)),
      ([0b00110101], (.opc8System15RegisterDefault 0 0)),
      ([0b11110110], (.opc8System16RegisterDefault 1 1)),
      ([0b00110111], (.opc8System17RegisterDefault 0 0)),
      ([0b11111000], (.opc8System18RegisterDefault 1 1)),
      ([0b00111001], (.opc8System19RegisterDefault 0 0)),
      ([0b11111010], (.opc8System1aRegisterDefault 1 1)),
      ([0b11111011], (.opc8System1bRegisterDefault 1 1)),
      ([0b11111100], (.opc8System1cRegisterDefault 1 1)),
      ([0b11111101], (.opc8System1dDeleteTopology 1 1)),
      ([0b00111110], (.opc8System1eOffline 0 0)),
      ([0b00111111], (.opc8System1fOnline 0 0))] :
      List (Bytes × Instr)).all (fun e => decode .opc8 e.1 = .ok e.2) = true := by decide

/-- Rows of `opcset`: the word of each, written from the encoding of spec/30_encoding.md, decodes to its instruction. -/
theorem test_decode_opcset :
    ([([0b00000001], .opcsetBareReadCode01),
      ([0b01111111], .opcsetModebN2Code7f),
      ([0b01111110], .opcsetModebN2Code7e),
      ([0b01100100], .opcsetModebN2Code64),
      ([0b01100101], .opcsetModebN2Code65),
      ([0b01100010], .opcsetModebN3Code62),
      ([0b01100011], .opcsetModebN3Code63),
      ([0b01000001], .opcsetModebN3LastbareCode41),
      ([0b11000010], .opcsetModebN3LastbareCodec2),
      ([0b01000011], .opcsetModeaFlattenCode43),
      ([0b11000001], .opcsetModeaFlattenCodec1),
      ([0b01010010], (.opcsetModeaDefault 0 18)),
      ([0b10011101], (.opcsetDeviceDefault 1 29))] :
      List (Bytes × Instr)).all (fun e => decode .opcset e.1 = .ok e.2) = true := by decide

/-- Rows of `fidDataType`: the word of each, written from the encoding of spec/30_encoding.md, decodes to its instruction. -/
theorem test_decode_fidDataType :
    ([([0b00000100, 0b10110100], (.fid16DataType0Reserved 0 1204)),
      ([0b00111101, 0b01100111], (.fid16DataType1Boolean 3 1383)),
      ([0b01001101, 0b00101101], (.fid16DataType2Enum 1 1325)),
      ([0b01111011, 0b00111011], (.fid16DataType3Integer 3 827)),
      ([0b10001001, 0b01101001], (.fid16DataType4Float 1 361)),
      ([0b10110010, 0b11001110], (.fid16DataType5Buffer 2 718)),
      ([0b11010010, 0b01011010], (.fid16DataType6Exception 2 602)),
      ([0b11111110, 0b10110011], (.fid16DataType7String 3 1715))] :
      List (Bytes × Instr)).all (fun e => decode .fidDataType e.1 = .ok e.2) = true := by decide

/-- Rows of `fidFunctionType`: the word of each, written from the encoding of spec/30_encoding.md, decodes to its instruction. -/
theorem test_decode_fidFunctionType :
    ([([0b01000010, 0b11010010], (.fid16FunctionType0Reserve 2 722)),
      ([0b10101101, 0b10011101], (.fid16FunctionType1Custom 5 1437)),
      ([0b10010100, 0b10110100], (.fid16FunctionType2Property 4 1204)),
      ([0b11111101, 0b01100111], (.fid16FunctionType3Event 7 1383))] :
      List (Bytes × Instr)).all (fun e => decode .fidFunctionType e.1 = .ok e.2) = true := by decide

/-- Rows of `fidResourceType`: the word of each, written from the encoding of spec/30_encoding.md, decodes to its instruction. -/
theorem test_decode_fidResourceType :
    ([([0b10101001, 0b00101101], (.fid16ResourceTypeCommon000To3ff 5 1 301)),
      ([0b01111100, 0b00111011], (.fid16ResourceTypeCommon400To4ff 3 3 59)),
      ([0b00101101, 0b01101001], (.fid16ResourceTypeCombine500To5ff 1 1 105)),
      ([0b11010110, 0b11001110], (.fid16ResourceTypeCombine600To6ff 6 2 206)),
      ([0b01010111, 0b01011010], (.fid16ResourceTypeStatic700To7ff 2 2 90))] :
      List (Bytes × Instr)).all (fun e => decode .fidResourceType e.1 = .ok e.2) = true := by decide

/-- Rows of `fidMarker`: the word of each, written from the encoding of spec/30_encoding.md, decodes to its instruction. -/
theorem test_decode_fidMarker :
    ([([0b11101000, 0b00000001], .fid16MarkerE801NewGroup),
      ([0b11101000, 0b00000011], .fid16MarkerE803Time)] :
      List (Bytes × Instr)).all (fun e => decode .fidMarker e.1 = .ok e.2) = true := by decide

/-- Rows of `vlp`: the word of each, written from the encoding of spec/30_encoding.md, decodes to its instruction. -/
theorem test_decode_vlp :
    ([([0b00011101], (.vlpClass1 29)),
      ([0b01110100, 0b10110100], (.vlpClass2 13492)),
      ([0b10110101, 0b10011101, 0b01100111], (.vlpClass3 3513703)),
      ([0b11000101, 0b11001101, 0b00101101, 0b00101101], (.vlpClass4 97332525))] :
      List (Bytes × Instr)).all (fun e => decode .vlp e.1 = .ok e.2) = true := by decide

/-- Rows of `ver`: the word of each, written from the encoding of spec/30_encoding.md, decodes to its instruction. -/
theorem test_decode_ver :
    ([([0b00000000], .verIllegal00),
      ([0b10000000], .verIllegal80),
      ([0b01001110], (.verNoMsgId 78)),
      ([0b11011010], (.verWithMsgId 90))] :
      List (Bytes × Instr)).all (fun e => decode .ver e.1 = .ok e.2) = true := by decide

/-- Rows of `errkind`: the word of each, written from the encoding of spec/30_encoding.md, decodes to its instruction. -/
theorem test_decode_errkind :
    ([([0b00000001], .errkind1MalformedFrame),
      ([0b00000010], .errkind2IntegrityError),
      ([0b00000011], .errkind3UnknownDataType),
      ([0b00000100], .errkind4ValueOutOfRange),
      ([0b00000101], .errkind5TypeMismatch),
      ([0b00000110], .errkind6ArityError),
      ([0b00000111], .errkind7JsonParseError),
      ([0b00001000], .errkind8MissingField)] :
      List (Bytes × Instr)).all (fun e => decode .errkind e.1 = .ok e.2) = true := by decide

/-- A command word with bit 7 set (R61), a marker id that is none (R75), an error kind that is none (U7), a prefix of another
size than its class (R78), and a word of the wrong size. -/
theorem test_decode_rejects :
    decode .cmdw [0x80] = .error .notACommandWord ∧ decode .fidMarker [0xE8, 0x02] = .error .notAMarker ∧
      decode .errkind [0x00] = .error .notAnErrorKind ∧ decode .errkind [0x09] = .error .notAnErrorKind ∧
      decode .vlp [0x40] = .error .wrongSize ∧ decode .opc8 [0x01, 0x02] = .error .wrongSize := by decide

/-- Encoding, against words of the tables. -/
theorem test_encode_words :
    encode (.parse 5) = [0b01101101] ∧ encode (.opc8System07Upgrade 1 0) = [0b10100111] ∧
      encode (.fid16FunctionType3Event 7 0x7FF) = [0xFF, 0xFF] ∧ encode (.vlpClass2 300) = [0x41, 0x2C] ∧
      encode (.vlpClass4 4194304) = [0xC0, 0x40, 0x00, 0x00] ∧ encode (.verWithMsgId 99) = [0xE3] := by decide

/-- The words of a table row that no other row shares are presented in their own format. -/
theorem test_table_words :
    decodeTableWord 7 0x60 = some (.pkg 0) ∧ decodeTableWord 8 0x21 = some .valDecEnum ∧
      decodeTableWord 8 0x2A = some (.opc8System0aRegisterDefault 0 0) ∧ decodeTableWord 8 0xC2 = some .opcsetModebN3LastbareCodec2 ∧
      decodeTableWord 16 0xE803 = some .fid16MarkerE803Time := by decide

/-! ### Small states -/

/-- The reset state with these bytes in `IBUF`. -/
def withInput (bs : Bytes) : State := { State.reset with ibuf := Memory.ofBytes bs }

/-- The reset state with a value at the value port. -/
def withValue (v : Value) : State := { State.reset with ports := { zeroOperands with value := v } }

/-- The reset state with a request at the request port. -/
def withRequest (req : Request) : State := { State.reset with ports := { zeroOperands with request := req } }

/-- A request with an operation code, no message id, no response code and no group id. -/
def request (code : Byte) (params : Entries) : Request :=
  { zeroOperands.request with rawVersion := 1, opCode := some code, params := params }

/-- The request of S1 (R188). -/
def sourceRequest : Request :=
  { zeroOperands.request with
    rawVersion := 1, operations := { operation := .request, type := .device, target := .system, method := .reset } }

/-- One plain entry. -/
def oneEntry (fid : Half) (tag : Tag) (v : Value) : Entries := .cons (.plain fid tag v) .nil

/-! ### The CRC16 engine (V-CRC) -/

/-- V-CRC-1, 2, 3, 9, 10 and 11. -/
theorem test_crcBlock :
    crcBlock [] = 0xFFFF ∧ crcBlock [0x00] = 0xE1F0 ∧ crcBlock [0xFF] = 0xFF00 ∧ crcBlock [0x01, 0x20] = 0x0A5C ∧
      crcBlock [0x31, 0x32, 0x33, 0x34, 0x35, 0x36, 0x37, 0x38, 0x39] = 0x29B1 ∧
      crcBlock [0x01, 0x20, 0x0A, 0x5C] = 0x0000 := by decide +kernel

/-- V-CRC-13: `CRC.BYTE` continues from the register. -/
theorem test_crcByte_streams : crcStep (crcStep 0xFFFF 0x01) 0x20 = 0x0A5C := by decide +kernel

/-! ### The value transcoders (V-VAL) -/

/-- V-VAL-1, 2. -/
theorem test_encBoolean :
    encBoolean (.B true) = .ok [0x01] ∧ encBoolean (.B false) = .ok [0x00] ∧ encBoolean (.N 1) = .error .typeMismatch := by
  decide

/-- V-VAL-4. -/
theorem test_encEnum :
    encEnum (.N 0) = .ok [0x00] ∧ encEnum (.N 255) = .ok [0xFF] ∧ encEnum (.N 256) = .error .valueOutOfRange ∧
      encEnum (.N (-1)) = .error .valueOutOfRange ∧ encEnum (.B true) = .error .typeMismatch := by decide

/-- V-VAL-6, 7. -/
theorem test_encInteger :
    encInteger (.N 1234) = .ok [0x00, 0x00, 0x04, 0xD2] ∧ encInteger (.N (-1)) = .ok [0xFF, 0xFF, 0xFF, 0xFF] ∧
      encInteger (.N (-65536)) = .ok [0xFF, 0xFF, 0x00, 0x00] ∧ encInteger (.N 65535) = .ok [0x00, 0x00, 0xFF, 0xFF] ∧
      encInteger (.N 65536) = .error .valueOutOfRange ∧ encInteger (.N (-65537)) = .error .valueOutOfRange := by decide

/-- V-VAL-9, 10. -/
theorem test_float :
    encFloat (.F 0x3F800000) = .ok [0x3F, 0x80, 0x00, 0x00] ∧
      decFloat [0x3F, 0x80, 0x00, 0x00] 0 = .ok (.F 0x3F800000, 4) := by decide

/-- V-VAL-11. -/
theorem test_encException :
    encException (.N 5) = .ok [0x00, 0x00, 0x00, 0x05] ∧ encException (.N 4294967295) = .ok [0xFF, 0xFF, 0xFF, 0xFF] ∧
      encException (.N 4294967296) = .error .valueOutOfRange ∧ encException (.N (-1)) = .error .valueOutOfRange := by decide

/-- V-VAL-13, 15, 17. -/
theorem test_encRuns :
    encBuffer (.Y [0xDE, 0xAD]) = .ok [0x02, 0xDE, 0xAD] ∧ encBuffer (.Y []) = .ok [0x00] ∧
      encString (.S [0x68, 0x69]) = .ok [0x02, 0x68, 0x69] ∧ encJson (.J [0x7B, 0x7D]) = .ok [0x02, 0x7B, 0x7D] := by decide

/-- V-VAL-3. -/
theorem test_decBoolean :
    decBoolean [0x01] 0 = .ok (.B true, 1) ∧ decBoolean [0x00] 0 = .ok (.B false, 1) ∧
      decBoolean [0x02] 0 = .error .valueOutOfRange ∧ decBoolean [] 0 = .error .malformedFrame := by decide

/-- V-VAL-5, 8. -/
theorem test_decNumbers :
    decEnum [0xC8] 0 = .ok (.N 200, 1) ∧ decInteger [0xFF, 0xFF, 0xFF, 0xFF] 0 = .ok (.N (-1), 4) ∧
      decInteger [0x80, 0x00, 0x00, 0x00] 0 = .ok (.N (-2147483648), 4) ∧
      decInteger [0x00, 0x01, 0x00, 0x00] 0 = .ok (.N 65536, 4) ∧ decInteger [0x00, 0x00, 0x04] 0 = .error .malformedFrame := by
  decide +kernel

/-- V-VAL-12. -/
theorem test_decException :
    decException [0x00, 0x00, 0x00, 0x05] 0 = .ok (.X [0, 2], 4) ∧ decException [0x80, 0x00, 0x00, 0x00] 0 = .ok (.X [31], 4) ∧
      decException [0x00, 0x01, 0x00, 0x01] 0 = .ok (.X [0, 16], 4) := by decide +kernel

/-- V-VAL-14, 16. -/
theorem test_decRuns :
    decBuffer [0x02, 0xDE, 0xAD] 0 = .ok (.Y [0xDE, 0xAD], 3) ∧ decBuffer [0x02, 0xDE] 0 = .error .malformedFrame ∧
      decBuffer [0x40, 0x02, 0xDE, 0xAD] 0 = .ok (.Y [0xDE, 0xAD], 4) ∧
      decString [0x02, 0x68, 0x69, 0xFF] 0 = .ok (.S [0x68, 0x69], 3) := by decide

/-- V-VAL-19. -/
theorem test_valSel :
    valSel defaultParams 0x7001 = .ok .integer ∧ valSel defaultParams 0xF001 = .ok .string ∧
      valSel defaultParams 0xF801 = .ok .json ∧ valSel defaultParams 0xE801 = .ok .string ∧
      valSel defaultParams 0xD001 = .ok .exception ∧ valSel defaultParams 0xB001 = .ok .buffer ∧
      valSel defaultParams 0x3500 = .ok .boolean ∧ valSel defaultParams 0x1001 = .error .unknownDataType := by decide

/-! ### The bit-field codecs (V-FID, V-OPC) -/

/-- V-FID-1. -/
theorem test_fidEnc :
    fidEnc 1 2 1 = 0x3001 ∧ fidEnc 7 1 3 = 0xE803 ∧ fidEnc 7 3 2047 = 0xFFFF ∧ fidEnc 0 0 0 = 0x0000 := by decide

/-- V-FID-3 to 7. -/
theorem test_fidDec :
    (fidDec 0x34FF).map FidRecord.resourceType = .ok .common ∧ (fidDec 0x3500).map FidRecord.resourceType = .ok .combine ∧
      (fidDec 0x36FF).map FidRecord.resourceType = .ok .combine ∧ (fidDec 0x3700).map FidRecord.resourceType = .ok .static ∧
      (fidDec 0x2500).map FidRecord.resourceType = .ok .combine ∧
      (fidDec 0x2D00).map FidRecord.resourceType = .ok .unclassified ∧ fidDec 0x1FFF = .error .unknownDataType := by decide

/-- V-OPC-2 to 7. -/
theorem test_opcEnc :
    opcEnc defaultParams ⟨.notify, .resource, .subDevice, .response⟩ = 0xC3 ∧
      opcEnc defaultParams ⟨.register, .system, .device, .request⟩ = 0x22 ∧
      opcEnc defaultParams ⟨.deleteTopology, .system, .subDevice, .request⟩ = 0x7D ∧
      opcEnc defaultParams ⟨.upgrade, .system, .device, .response⟩ = 0xA7 ∧
      opcEnc defaultParams ⟨.reset, .resource, .device, .request⟩ = 0x03 ∧
      opcEnc defaultParams ⟨.write, .system, .device, .request⟩ = 0x22 := by decide

/-- V-OPC-8 to 10. -/
theorem test_opcDec :
    opcDec 0x04 = ⟨.notify, .resource, .device, .request⟩ ∧ opcDec 0xA2 = ⟨.register, .system, .device, .response⟩ ∧
      opcDec 0x3D = ⟨.deleteTopology, .system, .device, .request⟩ ∧ opcDec 0xFF = ⟨.online, .system, .subDevice, .response⟩ ∧
      opcDec 0xC1 = ⟨.read, .resource, .subDevice, .response⟩ := by decide

/-! ### The length prefix (V-VLP) -/

/-- V-VLP-1 to 5: the class boundaries (R161) and the range. -/
theorem test_vlpEnc_boundaries :
    vlpEnc 0 = .ok [0x00] ∧ vlpEnc 63 = .ok [0x3F] ∧ vlpEnc 64 = .ok [0x40, 0x40] ∧ vlpEnc 16383 = .ok [0x7F, 0xFF] ∧
      vlpEnc 16384 = .ok [0x80, 0x40, 0x00] ∧ vlpEnc 4194303 = .ok [0xBF, 0xFF, 0xFF] ∧
      vlpEnc 4194304 = .ok [0xC0, 0x40, 0x00, 0x00] ∧ vlpEnc 0x3FFFFFFF = .ok [0xFF, 0xFF, 0xFF, 0xFF] ∧
      vlpEnc 0x40000000 = .error .valueOutOfRange := by decide +kernel

/-- V-VLP-6 to 8. -/
theorem test_vlpDec :
    vlpDec [0x41, 0x2C] 0 = .ok (300, 2) ∧ vlpDec [0x81, 0x11, 0x70] 0 = .ok (70000, 3) ∧
      vlpDec [0xFF, 0xFF, 0xFF, 0xFF] 0 = .ok (0x3FFFFFFF, 4) ∧ vlpDec [0x40, 0x05] 0 = .ok (5, 2) ∧
      vlpDec [0xC0, 0x00, 0x00, 0x05] 0 = .ok (5, 4) ∧ vlpDec [0x7F] 0 = .error .malformedFrame := by decide +kernel

/-- V-VLP-9. -/
theorem test_wrap :
    wrap 0x3500 [0x30, 0x01, 0x01] = .ok [0x35, 0x00, 0x03, 0x30, 0x01, 0x01] ∧ wrap 0x3500 [] = .ok [0x35, 0x00, 0x00] := by
  decide

/-! ### The packager (V-PKG) -/

/-- V-PKG-1, S1: D00's own example. -/
theorem test_pkg_source : packageFrame defaultParams sourceRequest = .ok [0x01, 0x20, 0x0A, 0x5C] := by decide +kernel

/-- V-PKG-3, 5, 7, 9, 16, 24. -/
theorem test_pkg :
    packageFrame defaultParams (request 0x01 .nil) = .error .arityError ∧
      packageFrame defaultParams (request 0x01 (oneEntry 0x7001 .integer (.N 0))) =
        .ok [0x01, 0x01, 0x70, 0x01, 0xDD, 0x3C] ∧
      packageFrame defaultParams (request 0x81 (oneEntry 0x7001 .integer (.N 5))) = .error .missingField ∧
      packageFrame defaultParams { request 0x20 .nil with rawVersion := 100 } = .error .valueOutOfRange ∧
      packageFrame defaultParams (request 0x02 (.cons (.group 0x3500 .nil) .nil)) =
        .ok [0x01, 0x02, 0x35, 0x00, 0x00, 0x78, 0x60] ∧
      packageFrame defaultParams
          (request 0x01 (.cons (.plain 0x7001 .integer (.S [0x78])) (oneEntry 0x3002 .boolean (.B true)))) =
        .error .arityError := by decide +kernel

/-! ### The parser (V-PAR) -/

/-- The kind and the fields of the fault a frame takes. -/
def faultOf (frame : Bytes) : Option (ErrKind × Option Correlation) :=
  match parseFrame defaultParams { token := 0 } frame with
  | .ok _ => none
  | .error e => some e

/-- The payload a frame decodes to. -/
def payloadIn (frame : Bytes) : Option Payload :=
  match parseFrame defaultParams { token := 0 } frame with
  | .ok r => some r.params
  | .error _ => none

/-- V-PAR-1 to 10. -/
theorem test_parse_faults :
    faultOf [] = some (.malformedFrame, none) ∧ faultOf [0x80, 0x20, 0x00, 0x00] = some (.malformedFrame, none) ∧
      faultOf [0x01, 0x02, 0x0E, 0x7C] = some (.malformedFrame, none) ∧
      faultOf [0x01, 0x20, 0x0A, 0x5D] = some (.integrityError, none) ∧
      faultOf [0x81, 0x00, 0x00, 0x00, 0x09, 0x02, 0x10, 0x01, 0x01, 0x69, 0x84] =
        some (.unknownDataType, some { msgId := some 9, opcode := 0x02 }) ∧
      faultOf [0x01, 0x81, 0xAF, 0x97] = some (.malformedFrame, some { msgId := none, opcode := 0x81 }) := by decide +kernel

/-- V-PAR-12, 18, 19, 27: nesting, an over-long prefix, no arity check, mode B. -/
theorem test_parse_payloads :
    payloadIn [0x01, 0x02, 0x35, 0x00, 0x06, 0x35, 0x01, 0x03, 0x30, 0x01, 0x01, 0x4B, 0x92] =
        some (.device [(0x3500, .mk 0x3500 (fieldsOf 0x3500)
          (.G (.cons (.mk 0x3501 (fieldsOf 0x3501)
            (.G (.cons (.mk 0x3001 (fieldsOf 0x3001) (.B true)) .nil) false)) .nil) false))]) ∧
      payloadIn [0x01, 0x02, 0xF0, 0x01, 0x40, 0x02, 0x68, 0x69, 0x52, 0x13] =
        some (.device [(0xF001, .mk 0xF001 (fieldsOf 0xF001) (.S [0x68, 0x69]))]) ∧
      payloadIn [0x01, 0x01, 0x70, 0x01, 0x30, 0x02, 0xB1, 0x73] =
        some (.device [(0x7001, .mk 0x7001 (fieldsOf 0x7001) .Absent), (0x3002, .mk 0x3002 (fieldsOf 0x3002) .Absent)]) ∧
      payloadIn [0x01, 0x7F, 0xE8, 0x01, 0x01, 0x61, 0xE8, 0x02, 0x01, 0x62, 0x8D, 0xC0] =
        some (.modeB [[(0xE801, .S [0x61]), (0xE802, .S [0x62])]]) := by decide +kernel

/-! ### Witnesses: hypotheses of the statements that can be met -/

/-- A frame that parses to this response ends `PARSE` so. -/
theorem parse_completes {vt : BitVec 3} {s : State} {r : Response}
    (h : parseFrame s.params s.ports.now s.window = .ok r) :
    ∃ t, exec (.parse vt) s = .next t ∧ t.err.valid = false ∧ t.result = .response r := by
  refine ⟨{ deliver (.response r) s with pos := Config.freePos s.draws, depth := 0, stepCtr := 9 }, ?_, rfl, rfl⟩
  show execParse vt s = _
  simp only [execParse, h]

/-- A frame that fails so ends `PARSE` so. -/
theorem parse_faults {vt : BitVec 3} {s : State} {k : ErrKind} {corr : Option Correlation}
    (h : parseFrame s.params s.ports.now s.window = .error (k, corr)) :
    ∃ t, exec (.parse vt) s = .next t ∧ t.err.valid = true ∧ t.err.kind = errKindCode k := by
  refine ⟨takeFault k corr s, ?_, rfl, rfl⟩
  show execParse vt s = _
  simp only [execParse, h]

/-- The frame of S1. -/
def sourceFrame : Bytes := [0x01, 0x20, 0x0A, 0x5C]

/-- The response to the frame of S1. -/
def sourceResponse : Response :=
  { version := 1, msgId := none, opcode := 0x20, operations := opcDec 0x20, code := none, params := .device [] }

/-- `CRC.BYTE` of 0x01, as the host issues it. -/
def byteCommand : Issue := { bareIssue .cmdw [0x08] with operands := some { zeroOperands with byte := 1 } }

/-- A command word that is none (R61). -/
def badIssue : Issue := bareIssue .cmdw [0x80]

/-- The reset state with one command to issue. -/
def oneCommand : State := { State.reset with script := [.command byteCommand] }

/-- The reset state with one word to issue that is no word of its format. -/
def badCommand : State := { State.reset with script := [.command badIssue] }

/-- The block mid-run, with a fault in `ERR` and another value in `CRC`: the host resets it, and then issues `CRC.BYTE`. -/
def resetThenByte : State :=
  { State.reset with
    crc := 0x1234
    err := { State.reset.err with valid := true, kind := 1 }
    script := [.reset, .command byteCommand] }

theorem witness_ResetLeavesSpecifiedValues : resetThenByte.script = .reset :: [.command byteCommand] := rfl

/-- A reset of its own ends in the values of R281, and a host that issues `CRC.BYTE` straight after it gets the result of
`CRC.INIT` and `CRC.BYTE` (R282, example of R102). -/
theorem test_reset_at_boundary :
    ∃ t, step resetThenByte = .next t ∧ t.crc = 0xFFFF ∧ t.err.valid = false ∧ ∃ u, step t = .next u ∧ u.crc = 0xF1D1 :=
  ⟨_, rfl, rfl, rfl, _, rfl, by decide +kernel⟩

/-- A word placed before a reset runs in the very next step. -/
theorem test_placed_before_reset :
    ∃ t, step (({ resetThenByte with ports := { zeroOperands with fid := 0xE803 } } : State).withFetchWord 7 0x38) = .next t ∧
      t.result = .fields (fieldsOf 0xE803) := ⟨_, rfl, rfl⟩

/-- The READ requests are reads that are requests, and nothing else is (R151, R177). -/
theorem test_read_requests :
    ∀ c : Byte, (isRead c = true ∧ isResponse c = false) ↔ (isDeviceReadReq c = true ∨ isSubDeviceReadReq c = true) := by
  decide +kernel

/-- The later of two pairs with one function id replaces the earlier (R37). -/
theorem test_dict_view : dictView [((1 : Half), 0), (2, 1), (1, 2)] = [(2, 1), (1, 2)] := by decide

theorem witness_StepKeepsInvariant : oneCommand.inv ∧ ∃ t, step oneCommand = .next t ∧ t.crc = 0xF1D1 :=
  ⟨by decide, _, rfl, by decide +kernel⟩

theorem witness_StepRunsDecodedInstruction :
    ∃ i rest, oneCommand.script = .command i :: rest ∧ decode i.format i.word = .ok (.crcByte 0) := ⟨_, _, rfl, by decide⟩

theorem witness_StepWithoutInstruction :
    State.reset.script = [] ∧
      ∃ i rest, badCommand.script = .command i :: rest ∧ decode i.format i.word = .error .notACommandWord :=
  ⟨rfl, _, _, rfl, by decide⟩

theorem witness_DecodeOfEncodeIsIdentity :
    Instr.wellFormed (.opcsetModeaDefault 1 3) = true ∧ Instr.wellFormed (.vlpClass4 0x3FFFFFFF) = true ∧
      Instr.wellFormed (.verNoMsgId 127) = true := by decide

theorem witness_EncodeOfDecodeIsIdentity : decode .opcset [0xC3] = .ok (.opcsetModeaDefault 1 3) := by decide

theorem witness_EveryCommandEnds : isReserved (.pkg 0) = false ∧ isReserved .errkind8MissingField = false := by decide

theorem witness_ConfigurationAndInputNeverWritten : ∃ t, exec (.crcBlock 0) (withInput [0x41]) = .next t := ⟨_, rfl⟩

theorem witness_OnlyOutputCommandsWriteObuf :
    ∃ t, writesObuf (.crcBlock 0) = false ∧ exec (.crcBlock 0) (withInput [0x41]) = .next t ∧ t.err.valid = false :=
  ⟨_, rfl, rfl, rfl⟩

/-- Two states an earlier command left different. -/
theorem witness_CommandsIgnoreEarlierCommands :
    ∃ s s' t : State,
      readsCrc (.opcDec 0) = false ∧ s'.params = s.params ∧ s'.ports = s.ports ∧ s'.ibuf = s.ibuf ∧ s'.draws = s.draws ∧
        s' ≠ s ∧ exec (.opcDec 0) s = .next t :=
  ⟨State.reset, { State.reset with crc := 0, pos := 7, obuf := Memory.ofBytes [0x2A] }, _, rfl, rfl, rfl, rfl, rfl,
    by decide, rfl⟩

theorem witness_CrcByteRunsEightRounds :
    State.reset.crc = 0xFFFF ∧ State.reset.ports.byte = 0x00 ∧
      ({ State.reset with ports := { zeroOperands with byte := 1 } } : State).ports.byte = 0x01 := by decide

theorem witness_CrcBlockIsInitThenBytes : (withInput []).window = [] := rfl

theorem witness_CrcDetectsAnyByteChange : (0x00 : Byte) ≠ 0x80 := by decide

/-- One value for each arm of the statement. -/
theorem witness_ValuesRoundTrip :
    valEnc .exception (.N 5) = .ok [0x00, 0x00, 0x00, 0x05] ∧ valEnc .json (.J [0x7B, 0x7D]) = .ok [0x02, 0x7B, 0x7D] ∧
      valEnc .integer (.N (-65536)) = .ok [0xFF, 0xFF, 0x00, 0x00] ∧ valEnc .string (.S []) = .ok [0x00] := by decide

/-- The default configuration, with an id at each side of the boundary. -/
theorem witness_SelectorPicksTranscoder :
    paramsWf State.reset.params = true ∧ (0x1FFF : Half).toNat / 8192 = 0 ∧ (0x2000 : Half).toNat / 8192 ≠ 0 := by decide

theorem witness_FunctionIdRoundTrips : (1 : BitVec 3) ≠ 0 ∧ (7 : BitVec 3) ≠ 0 := by decide

/-- A descriptor for each branch of the second half, `register` among them. -/
theorem witness_OperationCodeRoundTrips :
    Method.notify ∈ [Method.read, .write, .notify] ∧ Method.register ∉ [Method.read, .write, .notify] ∧
      sysMethodName defaultParams.sysRegisterCode = .register := by decide

theorem witness_VlpRoundTrips :
    0x3FFFFFFF ≤ 0x3FFFFFFF ∧ 2 ^ 14 - 1 < 2 ^ 14 ∧ 2 ^ 22 - 1 < 2 ^ 22 ∧ 2 ^ 30 - 1 < 2 ^ 30 := by decide

/-- A response with a message id, a response code and a group id, at the upper end of the version range. -/
def fullRequest : Request :=
  { request 0x81 (oneEntry 0x7001 .integer (.N 5)) with
    rawVersion := 99, id := some 0xFFFFFFFF, code := some 0x00, groupId := some 0x3500 }

theorem witness_PackagingWritesFrame :
    1 ≤ fullRequest.rawVersion ∧ fullRequest.rawVersion ≤ 99 ∧
      (isResponse (opByte defaultParams fullRequest) = true → fullRequest.code.isSome = true) ∧
      opByte defaultParams fullRequest ≠ 0x01 ∧ opByte defaultParams fullRequest ≠ 0x41 ∧
      encodeEntries (decide (opByte defaultParams fullRequest = 0x01)) fullRequest.params =
        .ok [0x70, 0x01, 0x00, 0x00, 0x00, 0x05] ∧
      wrapTop fullRequest.groupId [0x70, 0x01, 0x00, 0x00, 0x00, 0x05] =
        .ok [0x35, 0x00, 0x06, 0x70, 0x01, 0x00, 0x00, 0x00, 0x05] := by decide

/-- The two READ codes with the entry counts at the edge of the arity rule, and the lowest version. -/
theorem witness_PackagingWritesFrame_reads :
    opByte defaultParams (request 0x01 (oneEntry 0x7001 .integer (.N 0))) = 0x01 ∧
      (entriesList (request 0x01 (oneEntry 0x7001 .integer (.N 0))).params).length = 1 ∧
      opByte defaultParams (request 0x41 (oneEntry 0x7001 .integer (.N 0))) = 0x41 ∧
      1 ≤ (entriesList (request 0x41 (oneEntry 0x7001 .integer (.N 0))).params).length ∧
      1 ≤ (request 0x41 .nil).rawVersion ∧
      encodeEntries (decide ((0x01 : Byte) = 0x01)) (oneEntry 0x7001 .integer (.N 0)) = .ok [0x70, 0x01] := by decide

/-- One request for each check, at the values where it begins to fail. -/
theorem witness_PackagingChecksInOrder :
    (({ request 0x20 .nil with rawVersion := 0 } : Request).rawVersion < 1 ∧
      99 < ({ request 0x20 .nil with rawVersion := 100 } : Request).rawVersion) ∧
      (isResponse (opByte defaultParams (request 0x81 .nil)) = true ∧ (request 0x81 .nil).code = none) ∧
      (opByte defaultParams (request 0x01 .nil) = 0x01 ∧ (entriesList (request 0x01 .nil).params).length ≠ 1) ∧
      opByte defaultParams (request 0x41 .nil) = 0x41 ∧ (entriesList (request 0x41 .nil).params).length = 0 := by decide

theorem witness_TopGroupIsGroupEntry :
    opByte defaultParams (request 0x02 .nil) ≠ 0x01 ∧ opByte defaultParams (request 0x02 .nil) ≠ 0x41 := by decide

/-- The frame of S1: no message id, no response code, no payload; it completes. -/
theorem witness_ParsingOfStampedFrame :
    (0x01 : Byte) ≠ 0x00 ∧ (0x01 : Byte) ≠ 0x80 ∧ ((none : Option Word).isSome = true ↔ 128 < (0x01 : Byte).toNat) ∧
      ((none : Option Byte).isSome = true ↔ isResponse 0x20 = true) ∧ tightened 0x20 = false ∧
      (withInput sourceFrame).window = stampFrame ((0x01 : Byte) :: [] ++ 0x20 :: [] ++ []) ∧
      decodePayload defaultParams { token := 0 } 0x20 [] = .ok (.device []) := by decide +kernel

/-- A response with a message id, a response code and a payload that faults: its id has data type 0. -/
theorem witness_ParsingOfStampedFrame_faults :
    ∃ s : State,
      ((some 9 : Option Word).isSome = true ↔ 128 < (0x81 : Byte).toNat) ∧
        ([0x00, 0x00, 0x00, 0x09] : Bytes) =
          [(9 : Word).extractLsb' 24 8, (9 : Word).extractLsb' 16 8, (9 : Word).extractLsb' 8 8, (9 : Word).extractLsb' 0 8] ∧
        ((some 0x55 : Option Byte).isSome = true ↔ isResponse 0x82 = true) ∧ tightened 0x82 = false ∧
        s.window = stampFrame ((0x81 : Byte) :: [0x00, 0x00, 0x00, 0x09] ++ 0x82 :: [0x55] ++ [0x10, 0x01]) ∧
        decodePayload s.params s.ports.now 0x82 [0x10, 0x01] = .error .unknownDataType :=
  ⟨withInput (stampFrame ((0x81 : Byte) :: [0x00, 0x00, 0x00, 0x09] ++ 0x82 :: [0x55] ++ [0x10, 0x01])),
    by decide, by decide, by decide, by decide, by decide +kernel, by decide⟩

/-- Each way a shape can be wrong, the lengths one below what is needed. -/
theorem witness_ParsingRefusesBadShape :
    (withInput []).window = [] ∧ (withInput [0x00, 0x20, 0x00, 0x00]).window = 0x00 :: [0x20, 0x00, 0x00] ∧
      (withInput [0x80, 0x20, 0x00, 0x00]).window = 0x80 :: [0x20, 0x00, 0x00] ∧
      (withInput [0x01, 0x20, 0x0A]).window.length < 4 ∧
      (withInput [0x81, 0x00, 0x00, 0x00, 0x00, 0x20, 0x00]).window.length < 8 ∧
      ([0x01, 0x02, 0x00, 0x00, 0x00] : Bytes)[1]? = some 0x02 ∧ tightened 0x02 = true ∧
      (withInput [0x01, 0x02, 0x00, 0x00, 0x00]).window.length < 6 ∧
      ([0x81, 0x00, 0x00, 0x00, 0x00, 0x02, 0x00, 0x00, 0x00] : Bytes)[5]? = some 0x02 ∧
      (withInput [0x81, 0x00, 0x00, 0x00, 0x00, 0x02, 0x00, 0x00, 0x00]).window.length < 10 := by decide

/-- V-PAR-6, and a frame with a message id at its least length. -/
theorem witness_ParsingRefusesWrongCrc :
    (withInput [0x01, 0x20, 0x0A, 0x5D]).window = [0x01, 0x20] ++ [0x0A, 0x5D] ∧
      (withInput [0x01, 0x20, 0x0A, 0x5D]).window[1]? = some 0x20 ∧ tightened 0x20 = false ∧
      4 ≤ (withInput [0x01, 0x20, 0x0A, 0x5D]).window.length ∧ crcBlock [0x01, 0x20] ≠ ((0x0A : Byte) ++ (0x5D : Byte)) ∧
      8 ≤ (withInput [0x81, 0x00, 0x00, 0x00, 0x00, 0x20, 0x00, 0x00]).window.length ∧
      (withInput [0x81, 0x00, 0x00, 0x00, 0x00, 0x20, 0x00, 0x00]).window[5]? = some 0x20 ∧
      crcBlock [0x81, 0x00, 0x00, 0x00, 0x00, 0x20] ≠ ((0x00 : Byte) ++ (0x00 : Byte)) := by decide +kernel

/-- V-PAR-25's frame, its first and its last payload byte. -/
def smallFrame : Bytes := [0x01, 0x02, 0x37, 0x00, 0x01, 0x06, 0x21]

/-- What the frame of V-PAR-25 parses to. -/
def smallResponse : Response :=
  { version := 1, msgId := none, opcode := 0x02, operations := opcDec 0x02, code := none
    params := .device [(0x3700, .mk 0x3700 (fieldsOf 0x3700) (.B true))] }

theorem smallFrame_parses : parseFrame defaultParams { token := 0 } smallFrame = .ok smallResponse := by decide +kernel

theorem witness_PayloadCorruptionIsDetected :
    (∃ t, exec (.parse 0) (withInput smallFrame) = .next t ∧ t.err.valid = false) ∧
      (withInput smallFrame).window = 0x01 :: [0x02, 0x37, 0x00, 0x01, 0x06, 0x21] ∧
      (withInput smallFrame).window[1]? = some 0x02 ∧ isResponse 0x02 = false ∧
      (withInput smallFrame).window[2]? ≠ some 0x36 ∧ 4 + 2 < (withInput smallFrame).window.length ∧
      (withInput smallFrame).window[4]? ≠ some 0x00 := by
  refine ⟨?_, by decide⟩
  obtain ⟨t, h1, h2, -⟩ := parse_completes (vt := 0) (s := withInput smallFrame) smallFrame_parses
  exact ⟨t, h1, h2⟩

/-- A fault before step 6 and one in step 8 (V-PAR-6, V-PAR-8). -/
theorem witness_ParseFaultsCarryCorrelation :
    (∃ t, exec (.parse 0) (withInput [0x01, 0x20, 0x0A, 0x5D]) = .next t ∧ t.err.valid = true ∧
        t.err.kind = errKindCode .integrityError) ∧
      ∃ t, exec (.parse 0) (withInput [0x81, 0x00, 0x00, 0x00, 0x09, 0x02, 0x10, 0x01, 0x01, 0x69, 0x84]) = .next t ∧
        t.err.valid = true ∧ t.err.kind = errKindCode .unknownDataType :=
  ⟨parse_faults (corr := none) (by decide +kernel),
    parse_faults (corr := some { msgId := some 9, opcode := 0x02 }) (by decide +kernel)⟩

/-- The frame of V-PAR-8 passes steps 1 to 5, and the empty frame (V-PAR-1), which faults in them, does not. -/
theorem witness_ParseFaultsCarryCorrelation_frames :
    LegalFrame (withInput [0x81, 0x00, 0x00, 0x00, 0x09, 0x02, 0x10, 0x01, 0x01, 0x69, 0x84]).window 0x81 (some 9) 0x02 ∧
      (∀ (first c : Byte) (id : Option Word), ¬LegalFrame (withInput []).window first id c) ∧
      ∃ t, exec (.parse 0) (withInput []) = .next t ∧ t.err.valid = true ∧ t.err.kind = errKindCode .malformedFrame := by
  refine ⟨⟨by decide, by decide, by decide, ⟨_, rfl⟩, by decide,
    [0x81, 0x00, 0x00, 0x00, 0x09, 0x02, 0x10, 0x01, 0x01], 0x69, 0x84, by decide, by decide +kernel⟩, ?_,
    parse_faults (corr := none) (by decide +kernel)⟩
  rintro first c id ⟨-, -, -, -, -, body, hi, lo, h, -⟩
  have h' : ([] : Bytes) = body ++ [hi, lo] := h
  simp at h'

/-- A request whose supplied code differs from its descriptor's, and one with no supplied code (R175). -/
theorem test_operation_byte :
    opByte defaultParams { sourceRequest with opCode := some 0x41 } = 0x41 ∧ opByte defaultParams sourceRequest = 0x20 := by
  decide

theorem witness_ParseNeverRaisesEncodeKinds :
    ∃ t, exec (.parse 0) (withInput [0x01, 0x02, 0x30, 0x01, 0x02, 0x80, 0xE3]) = .next t ∧ t.err.valid = true ∧
      t.err.kind = errKindCode .valueOutOfRange :=
  parse_faults (corr := some { msgId := none, opcode := 0x02 }) (by decide +kernel)

/-- V-PAR-9, at the ends of the range of the first byte. -/
theorem witness_ResponseWithoutCodeIsRefused :
    (0x01 : Byte) ≠ 0x00 ∧ (0x01 : Byte) ≠ 0x80 ∧ ((none : Option Word).isSome = true ↔ 128 < (0x01 : Byte).toNat) ∧
      ((none : Option Word).isSome = true ↔ 128 < (0x7F : Byte).toNat) ∧ isResponse 0x81 = true ∧
      (withInput [0x01, 0x81, 0xAF, 0x97]).window = stampFrame ((0x01 : Byte) :: [] ++ [0x81]) := by decide +kernel

/-- V-PAR-10: the same with a message id, at the ends of the range of the first byte. -/
theorem witness_ResponseWithoutCodeIsRefused_msgId :
    (0x81 : Byte) ≠ 0x00 ∧ (0x81 : Byte) ≠ 0x80 ∧ ((some 5 : Option Word).isSome = true ↔ 128 < (0x81 : Byte).toNat) ∧
      ((some 5 : Option Word).isSome = true ↔ 128 < (0xFF : Byte).toNat) ∧
      ([0x00, 0x00, 0x00, 0x05] : Bytes) =
        [(5 : Word).extractLsb' 24 8, (5 : Word).extractLsb' 16 8, (5 : Word).extractLsb' 8 8, (5 : Word).extractLsb' 0 8] ∧
      (withInput [0x81, 0x00, 0x00, 0x00, 0x05, 0x81, 0xE1, 0xCC]).window =
        stampFrame ((0x81 : Byte) :: [0x00, 0x00, 0x00, 0x05] ++ [0x81]) := by decide +kernel

/-- The configuration with a depth limit. -/
def depthLimit (m : Nat) : Params := { defaultParams with maxDepth := some m }

/-- An id for each arm at a boundary of its range, and a limit that leaves no level and one that leaves one. -/
theorem witness_ListDecoderFollowsTheWire :
    (0x1F : Byte).toNat < 32 ∧ ¬ (0x20 : Byte).toNat < 32 ∧
      (fieldsOf 0x3500).resourceType = .combine ∧ (fieldsOf 0x36FF).resourceType = .combine ∧
      (fieldsOf 0x34FF).resourceType ≠ .combine ∧ (fieldsOf 0x3700).resourceType ≠ .combine ∧
      (depthLimit 0).maxDepth = some 0 ∧ (depthLimit 1).maxDepth ≠ some 0 ∧
      decodeWindow (depthLimit 0) false [0x35, 0x00, 0x00] = .error .malformedFrame ∧
      decodeWindow (depthLimit 1) false [0x35, 0x00, 0x00] =
        .ok [.mk 0x3500 (fieldsOf 0x3500) (.G .nil false)] := by decide +kernel

/-- Two levels of nesting (as V-PAR-12's payload) under a limit of two, which they meet, and of one, which they pass. -/
theorem witness_NestingStaysWithinMaxDepth :
    (depthLimit 2).maxDepth = some 2 ∧
      decodeWindow (depthLimit 2) false [0x35, 0x00, 0x06, 0x35, 0x01, 0x03, 0x30, 0x01, 0x01] =
        .ok [.mk 0x3500 (fieldsOf 0x3500)
          (.G (.cons (.mk 0x3501 (fieldsOf 0x3501)
            (.G (.cons (.mk 0x3001 (fieldsOf 0x3001) (.B true)) .nil) false)) .nil) false)] ∧
      decodeWindow (depthLimit 1) false [0x35, 0x00, 0x06, 0x35, 0x01, 0x03, 0x30, 0x01, 0x01] =
        .error .malformedFrame := by decide +kernel

theorem witness_ListDecoderNeedsNoMoreFuel : ([0x30, 0x01, 0x01] : Bytes).length ≤ 0 + 3 := by decide

/-- A flat list that begins with a time marker (V-PAR-30), and one that does not. -/
theorem witness_ModeAGroupsSplitAtMarkers :
    decodeWindow defaultParams false [0xE8, 0x03, 0x01, 0x74] =
        .ok [.mk 0xE803 (fieldsOf 0xE803) (.S [0x74])] ∧
      decodeWindow defaultParams false [0x30, 0x01, 0x01, 0xE8, 0x01, 0x00, 0xE8, 0x03, 0x01, 0x74] =
        .ok [.mk 0x3001 (fieldsOf 0x3001) (.B true), .mk 0xE801 (fieldsOf 0xE801) (.S []),
          .mk 0xE803 (fieldsOf 0xE803) (.S [0x74])] := by decide +kernel

/-- An entry with the least prefix, and one with an over-long prefix (R163). -/
def shortEntry : WireEntry := { fid := 0xE801, lenBytes := [0x01], text := [0x61] }
def longEntry : WireEntry := { fid := 0x2000, lenBytes := [0x40, 0x01], text := [0x62] }

/-- Two entries under `N` of 2 and of 3 (V-PAR-27, V-PAR-28), and a group whose last entry is bare. -/
theorem witness_ModeBGroupsHaveFixedCount :
    (shortEntry.legal ∧ longEntry.legal) ∧
      modeBWire 2 false 0 [shortEntry, longEntry] = [0xE8, 0x01, 0x01, 0x61, 0x20, 0x00, 0x40, 0x01, 0x62] ∧
      [shortEntry, longEntry].length % 2 = 0 ∧ ¬ [shortEntry, longEntry].length % 3 = 0 ∧
      modeBWire 3 true 0 [shortEntry, longEntry, shortEntry] =
        [0xE8, 0x01, 0x01, 0x61, 0x20, 0x00, 0x40, 0x01, 0x62, 0xE8, 0x01] := by
  refine ⟨⟨⟨?_, ?_⟩, ?_, ?_⟩, ?_⟩ <;> decide

/-- What can follow the entries: the greatest first byte of data type 000 and the least of 001, a prefix cut short, and a string
cut one byte short; after one entry of three the next one is not the id-only one, and after two it is. -/
theorem witness_ModeBGroupsHaveFixedCount_tails :
    (0x1F : Byte).toNat < 32 ∧ ¬ (0x20 : Byte).toNat < 32 ∧ ¬(true = true ∧ ([shortEntry].length + 1) % 3 = 0) ∧
      ([shortEntry, shortEntry].length + 1) % 3 = 0 ∧ vlpDec [] 0 = .error .malformedFrame ∧
      vlpDec [0x40] 0 = .error .malformedFrame ∧ vlpDec [0x02, 0x61] 0 = .ok (2, 1) ∧
      ([0x02, 0x61] : Bytes).length < 1 + 2 := by decide

/-- Mode B refuses data type 000 (V-PAR-29). -/
theorem test_mode_b_data_type_zero : modeB 3 false [0x10, 0x01, 0x01, 0x61] = .error .unknownDataType := by decide

/-- The flattening pass sets `asDict` on a group that stands directly in a dictionary, and not on a group inside it (R230, the
shape of P5 of spec/95_test_vectors.md). -/
theorem test_flattening :
    decodePayload defaultParams { token := 0 } 0x43 [0x35, 0x00, 0x03, 0x35, 0x01, 0x00] =
      .ok (.modeA [[(0x3500,
        { point := .mk 0x3500 (fieldsOf 0x3500)
            (.G (.cons (.mk 0x3501 (fieldsOf 0x3501) (.G .nil false)) .nil) true)
          time := .atDecode { token := 0 } })]]) := by decide +kernel

/-- A write request of a group and a plain entry, with a message id (as V-PAR-12 and P2). -/
def groupRequest : Request :=
  { request 0x02 (.cons (.group 0x3500 (oneEntry 0x3001 .boolean (.B true))) (oneEntry 0x7001 .integer (.N 1234))) with
    id := some 1 }

theorem witness_ParseOfPackageReturnsRequest :
    (withRequest groupRequest).ports.request = groupRequest ∧ (withRequest groupRequest).params.maxDepth = none ∧
      1 ≤ groupRequest.rawVersion ∧ groupRequest.rawVersion ≤ 99 ∧
      isSubDevice (opByte defaultParams groupRequest) = false ∧ opByte defaultParams groupRequest ≠ 0x01 ∧
      isResponse (opByte defaultParams groupRequest) = false ∧ tightened (opByte defaultParams groupRequest) = true ∧
      groupRequest.params ≠ .nil ∧ groupRequest.groupId = none ∧
      faithfulEntries defaultParams groupRequest.params = true ∧
      encodeEntries false groupRequest.params =
        .ok [0x35, 0x00, 0x03, 0x30, 0x01, 0x01, 0x70, 0x01, 0x00, 0x00, 0x04, 0xD2] := by decide

/-- A response with a response code, and with no entry at all. -/
theorem witness_ParseOfPackageReturnsRequest_response :
    isResponse (opByte defaultParams { request 0xA0 .nil with code := some 0 }) = true ∧
      ({ request 0xA0 .nil with code := some 0 } : Request).code.isSome = true ∧
      isSubDevice (opByte defaultParams { request 0xA0 .nil with code := some 0 }) = false ∧
      tightened (opByte defaultParams { request 0xA0 .nil with code := some 0 }) = false ∧
      faithfulEntries defaultParams .nil = true ∧ encodeEntries false .nil = .ok [] := by decide

theorem witness_BareReadComesBackAbsent :
    opByte defaultParams (request 0x01 (oneEntry 0x7001 .integer (.N 0))) = 0x01 ∧
      (request 0x01 (oneEntry 0x7001 .integer (.N 0))).params = .cons (.plain 0x7001 .integer (.N 0)) .nil ∧
      (request 0x01 (oneEntry 0x7001 .integer (.N 0))).groupId = none ∧
      1 ≤ (request 0x01 .nil).rawVersion ∧ (request 0x01 .nil).rawVersion ≤ 99 ∧
      fidDataTypeBits 0x7001 ≠ 0 ∧ (fieldsOf 0x7001).resourceType ≠ .combine := by decide

theorem witness_OperationCodeRowsDecode :
    (Instr.opc8System1fOnline 0 1).format = .opc8 ∧ (Instr.opc8Resource00NotifyDefault 1 0).format = .opc8 := by decide

theorem witness_TreatmentRowsSelect :
    ((Instr.opcsetModeaDefault 1 3).format = .opcset ∧ (Instr.opcsetModeaDefault 1 3).wellFormed = true) ∧
      (Instr.opcsetBareReadCode01.format = .opcset ∧ Instr.opcsetBareReadCode01.wellFormed = true) := by decide

/-- The data type rows, with an id at each side of the boundary, and both kinds of row of the second clause. -/
theorem witness_FunctionIdRowsDecode :
    ((Instr.fid16DataType7String 3 2047).format = .fidDataType ∧ (Instr.fid16DataType0Reserved 3 2047).format = .fidDataType ∧
        paramsWf State.reset.params = true) ∧
      (Instr.fid16FunctionType0Reserve 0 0x500).format = .fidFunctionType ∧
      (Instr.fid16ResourceTypeCombine600To6ff 1 2 0xFF).format = .fidResourceType := by decide

theorem witness_PrefixRowsDecode :
    (Instr.vlpClass1 0).format = .vlp ∧ (Instr.vlpClass4 0x3FFFFFFF).format = .vlp := by decide

theorem witness_FirstByteRowsRead :
    ((Instr.verWithMsgId 127).format = .ver ∧ (Instr.verWithMsgId 127).wellFormed = true) ∧
      (Instr.verIllegal80.format = .ver ∧ Instr.verIllegal80.wellFormed = true) := by decide

theorem witness_ErrorKindRowsFault :
    Instr.errkind1MalformedFrame.format = .errkind ∧
      (Instr.errkind8MissingField, ErrKind.missingField, (8 : Byte)) ∈
        [(Instr.errkind1MalformedFrame, ErrKind.malformedFrame, (1 : Byte)), (.errkind8MissingField, .missingField, 8)] := by
  decide

end Sys2Proof.Tests
end

section
/-! PROOFS. Steps and frames (spec/10_state.md). Every command ends in one of ten ways, and which one is computed from
the configuration, the operand ports and `IBUF` alone (R20). `Ending` names the ways, `exec_endsByView` ties every instruction
to them, and what holds of every way to end holds of every instruction. -/

namespace Sys2Proof.Machine

open Sys2Proof

/-! ### The ways a command ends -/

/-- What a command may look at but for `CRC` (R20): the configuration, the operand ports and `IBUF`. -/
structure View where
  params : Params
  ports : Operands
  ibuf : Memory

/-- What a command sees of a state. -/
def State.view (s : State) : View := { params := s.params, ports := s.ports, ibuf := s.ibuf }

/-- The ways a command ends, each with the data it writes. -/
inductive Ending where
  /-- `CRC.INIT`: a fixed value in `CRC`. -/
  | loadCrc (c : Half)
  /-- `CRC.BYTE`: a byte shifted into the `CRC` that an earlier command left. -/
  | shiftCrc (b : Byte)
  /-- `CRC.BLOCK`: a value in `CRC`, and a result record. -/
  | blockCrc (c : Half) (r : Result)
  /-- A result record. -/
  | deliver (r : Result)
  /-- A result record, and `POS` moved. -/
  | read (r : Result) (pos : Nat)
  /-- Bytes in `OBUF`. -/
  | emit (bs : Bytes)
  /-- `PKG`: a frame in `OBUF`, and `STEP` at 7. -/
  | frame (bs : Bytes)
  /-- `PARSE`: a response, and the cursors of its end. -/
  | response (r : Response)
  /-- A fault. -/
  | fault (k : ErrKind) (corr : Option Correlation)
  /-- A fault of `PKG`, which leaves `OBUF` empty. -/
  | packageFault (k : ErrKind)

/-- The state a command leaves by ending this way. -/
def Ending.run : Ending → State → State
  | .loadCrc c, s => completeCrc c s
  | .shiftCrc b, s => completeCrc (crcStep s.crc b) s
  | .blockCrc c r, s => { completeCrc c s with result := r }
  | .deliver r, s => Machine.deliver r s
  | .read r pos, s => { Machine.deliver r s with pos := pos }
  | .emit bs, s => Machine.emit bs s
  | .frame bs, s => { Machine.emit bs s with stepCtr := 7 }
  | .response r, s => { Machine.deliver (.response r) s with pos := Config.freePos s.draws, depth := 0, stepCtr := 9 }
  | .fault k corr, s => takeFault k corr s
  | .packageFault k, s => { takeFault k none s with obuf := [] }

/-- A result record, and `POS` past the bytes that a read at an offset consumed (R22). -/
def Ending.readFrom (pos : Nat) (x : Result × Nat) : Ending := .read x.1 (pos + x.2)

/-- Only the command that reads `CRC` shifts it, and only the commands that write `OBUF` put bytes there. -/
def Ending.allowedFor (i : Instr) : Ending → Prop
  | .shiftCrc _ => readsCrc i = true
  | .emit _ | .frame _ => writesObuf i = true
  | .loadCrc _ | .blockCrc _ _ | .deliver _ | .read _ _ | .response _ | .fault _ _ | .packageFault _ => True

/-- The end of a command whose result may be an error: an ending for what it gives, or a fault without correlation. -/
def Ending.ofResult {α : Type} (f : α → Ending) : Except ErrKind α → Ending
  | .ok a => f a
  | .error k => .fault k none

theorem Ending.ofResult_allowedFor {α : Type} {i : Instr} (f : α → Ending) (hf : ∀ a, (f a).allowedFor i)
    (r : Except ErrKind α) : (Ending.ofResult f r).allowedFor i := by
  cases r with
  | ok a => exact hf a
  | error k => trivial

theorem finishEmit_eq_run (r : Except ErrKind Bytes) (s : State) :
    finishEmit r s = .next ((Ending.ofResult .emit r).run s) := by cases r <;> rfl

theorem finishDeliver_eq_run (r : Except ErrKind Result) (s : State) :
    finishDeliver r s = .next ((Ending.ofResult .deliver r).run s) := by cases r <;> rfl

theorem finishRead_eq_run (r : Except ErrKind (Result × Nat)) (pos : Nat) (s : State) :
    finishRead r pos s = .next ((Ending.ofResult (.readFrom pos) r).run s) := by cases r <;> rfl

/-- How `PKG` ends, by what the packager gives. -/
def Ending.ofPackage : Except ErrKind Bytes → Ending
  | .ok bs => .frame bs
  | .error k => .packageFault k

theorem Ending.ofPackage_allowedFor (vt : BitVec 3) (r : Except ErrKind Bytes) :
    (Ending.ofPackage r).allowedFor (.pkg vt) := by
  cases r with
  | ok bs => rfl
  | error k => trivial

theorem execPkg_eq_run (vt : BitVec 3) (s : State) :
    execPkg vt s = .next ((Ending.ofPackage (packageFrame s.params s.ports.request)).run s) := by
  unfold execPkg
  cases packageFrame s.params s.ports.request <;> rfl

/-- How `PARSE` ends, by what the parser gives. -/
def Ending.ofParse : Except (ErrKind × Option Correlation) Response → Ending
  | .ok r => .response r
  | .error e => .fault e.1 e.2

theorem Ending.ofParse_allowedFor (i : Instr) (r : Except (ErrKind × Option Correlation) Response) :
    (Ending.ofParse r).allowedFor i := by cases r <;> trivial

theorem execParse_eq_run (vt : BitVec 3) (s : State) :
    execParse vt s = .next ((Ending.ofParse (parseFrame s.params s.ports.now s.window)).run s) := by
  unfold execParse
  cases parseFrame s.params s.ports.now s.window <;> rfl

/-! ### What a command sees decides how it ends -/

/-- An instruction always answers a next state, by an ending that is computed from what a command sees. -/
def EndsByView (i : Instr) : Prop :=
  ∃ f : View → Ending, (∀ v, (f v).allowedFor i) ∧ ∀ s, exec i s = .next ((f s.view).run s)

section
variable {i : Instr}

theorem endsByView_of_deliver (r : View → Result) (h : ∀ s, exec i s = .next (deliver (r s.view) s)) : EndsByView i :=
  ⟨fun v => .deliver (r v), fun _ => trivial, h⟩

theorem endsByView_of_finishDeliver (r : View → Except ErrKind Result)
    (h : ∀ s, exec i s = finishDeliver (r s.view) s) : EndsByView i :=
  ⟨fun v => .ofResult .deliver (r v), fun v => Ending.ofResult_allowedFor .deliver (fun _ => trivial) (r v),
    fun s => (h s).trans (finishDeliver_eq_run _ s)⟩

theorem endsByView_of_finishRead (r : View → Except ErrKind (Result × Nat)) (pos : View → Nat)
    (h : ∀ s, exec i s = finishRead (r s.view) (pos s.view) s) : EndsByView i :=
  ⟨fun v => .ofResult (.readFrom (pos v)) (r v),
    fun v => Ending.ofResult_allowedFor (.readFrom (pos v)) (fun _ => trivial) (r v),
    fun s => (h s).trans (finishRead_eq_run _ _ s)⟩

theorem endsByView_of_finishEmit (r : View → Except ErrKind Bytes) (hw : writesObuf i = true)
    (h : ∀ s, exec i s = finishEmit (r s.view) s) : EndsByView i :=
  ⟨fun v => .ofResult .emit (r v), fun v => Ending.ofResult_allowedFor .emit (fun _ => hw) (r v),
    fun s => (h s).trans (finishEmit_eq_run _ s)⟩

theorem endsByView_of_raise (k : ErrKind) (h : ∀ s, exec i s = raise k s) : EndsByView i :=
  ⟨fun _ => .fault k none, fun _ => trivial, h⟩

end

theorem endsByView_encoderOf (tag : Tag) : EndsByView (encoderOf tag) :=
  endsByView_of_finishEmit (fun v => valEnc tag v.ports.value) (by cases tag <;> rfl) (exec_encoderOf tag)

theorem endsByView_decoderOf (tag : Tag) : EndsByView (decoderOf tag) :=
  endsByView_of_finishRead
    (fun v => (valDec tag v.ibuf.bytes v.ports.pos).map fun (x : Value × Nat) => (.decoded x.1 x.2, x.2))
    (fun v => v.ports.pos) (exec_decoderOf tag)

/-- R20, R250: every instruction but the two reserved ones ends as what it sees says. The last arm is the rows that deliver
one record, whatever the state: the operation codes, the treatments, the markers and the legal first bytes. -/
theorem exec_endsByView (i : Instr) (hi : isReserved i = false) : EndsByView i := by
  cases i with
  | cmdReservedE | cmdReservedF => cases hi
  | crcInit => exact ⟨fun _ => .loadCrc crcInitValue, fun _ => trivial, fun _ => rfl⟩
  | crcByte => exact ⟨fun v => .shiftCrc v.ports.byte, fun _ => rfl, fun _ => rfl⟩
  | crcBlock =>
    exact ⟨fun v => .blockCrc (crcBlock v.ibuf.bytes) (.crc (crcBlock v.ibuf.bytes)), fun _ => trivial, fun _ => rfl⟩
  | valEncBoolean => exact endsByView_encoderOf .boolean
  | valEncEnum => exact endsByView_encoderOf .enum
  | valEncInteger => exact endsByView_encoderOf .integer
  | valEncFloat => exact endsByView_encoderOf .float
  | valEncBuffer => exact endsByView_encoderOf .buffer
  | valEncException => exact endsByView_encoderOf .exception
  | valEncString => exact endsByView_encoderOf .string
  | valEncJson => exact endsByView_encoderOf .json
  | valDecBoolean => exact endsByView_decoderOf .boolean
  | valDecEnum => exact endsByView_decoderOf .enum
  | valDecInteger => exact endsByView_decoderOf .integer
  | valDecFloat => exact endsByView_decoderOf .float
  | valDecBuffer => exact endsByView_decoderOf .buffer
  | valDecException => exact endsByView_decoderOf .exception
  | valDecString => exact endsByView_decoderOf .string
  | valDecJson => exact endsByView_decoderOf .json
  | valSel => exact endsByView_of_finishDeliver (fun v => (valSel v.params v.ports.fid).map .selected) fun _ => rfl
  | fidEnc =>
    exact endsByView_of_deliver (fun v => .functionId (fidEnc v.ports.dataType v.ports.functionType v.ports.resourceId))
      fun _ => rfl
  | fidDec => exact endsByView_of_finishDeliver (fun v => (fidDec v.ports.fid).map .fields) fun _ => rfl
  | opcEnc => exact endsByView_of_deliver (fun v => .opcode (opcEnc v.params v.ports.opDesc)) fun _ => rfl
  | opcDec => exact endsByView_of_deliver (fun v => .descriptor (opcDec v.ports.opcode)) fun _ => rfl
  | vlpEnc => exact endsByView_of_finishEmit (fun v => vlpEnc v.ports.len) rfl fun _ => rfl
  | vlpDec =>
    exact endsByView_of_finishRead (fun v => (vlpDec v.ibuf.bytes v.ports.pos).map fun r => (.length r.1 r.2, r.2))
      (fun v => v.ports.pos) fun _ => rfl
  | pkg vt =>
    exact ⟨fun v => .ofPackage (packageFrame v.params v.ports.request), fun _ => Ending.ofPackage_allowedFor vt _,
      execPkg_eq_run vt⟩
  | parse vt =>
    exact ⟨fun v => .ofParse (parseFrame v.params v.ports.now v.ibuf.bytes), fun _ => Ending.ofParse_allowedFor _ _,
      execParse_eq_run vt⟩
  | fid16DataType0Reserved | fid16DataType1Boolean | fid16DataType2Enum | fid16DataType3Integer | fid16DataType4Float
  | fid16DataType5Buffer | fid16DataType6Exception | fid16DataType7String =>
    exact endsByView_of_finishDeliver (fun v => (valSel v.params _).map .selected) fun _ => rfl
  | fid16FunctionType0Reserve | fid16FunctionType1Custom | fid16FunctionType2Property | fid16FunctionType3Event
  | fid16ResourceTypeCommon000To3ff | fid16ResourceTypeCommon400To4ff | fid16ResourceTypeCombine500To5ff
  | fid16ResourceTypeCombine600To6ff | fid16ResourceTypeStatic700To7ff =>
    exact endsByView_of_finishDeliver (fun _ => (fidDec _).map .fields) fun _ => rfl
  | vlpClass1 | vlpClass2 | vlpClass3 | vlpClass4 =>
    exact endsByView_of_finishRead (fun _ => .ok (.length _ _, _)) (fun _ => 0) fun _ => rfl
  | verIllegal00 | verIllegal80 | errkind1MalformedFrame | errkind2IntegrityError | errkind3UnknownDataType
  | errkind4ValueOutOfRange | errkind5TypeMismatch | errkind6ArityError | errkind7JsonParseError | errkind8MissingField =>
    exact endsByView_of_raise _ fun _ => rfl
  | _ => exact endsByView_of_deliver (fun _ => _) fun _ => rfl

/-- The reserved rows answer no state (R81). -/
theorem isReserved_eq_false_of_next {i : Instr} {s t : State} (h : exec i s = .next t) : isReserved i = false := by
  cases hi : isReserved i with
  | false => rfl
  | true => cases i <;> cases hi <;> cases h

/-- What an instruction that answers a next state has done: it has ended in an allowed way, and it ends in that way from
every state that it sees the same of. -/
theorem exec_eq_next {i : Instr} {s t : State} (h : exec i s = .next t) :
    ∃ e : Ending, e.allowedFor i ∧ t = e.run s ∧ ∀ s', s'.view = s.view → exec i s' = .next (e.run s') := by
  obtain ⟨f, hf, hrun⟩ := exec_endsByView i (isReserved_eq_false_of_next h)
  refine ⟨f s.view, hf _, ?_, fun s' hs => hs ▸ hrun s'⟩
  exact (Host.Outcome.next.inj ((hrun s).symm.trans h)).symm

/-! ### What each way to end leaves -/

@[simp] theorem run_params (e : Ending) (s : State) : (e.run s).params = s.params := by cases e <;> rfl
@[simp] theorem run_ports (e : Ending) (s : State) : (e.run s).ports = s.ports := by cases e <;> rfl
@[simp] theorem run_script (e : Ending) (s : State) : (e.run s).script = s.script := by cases e <;> rfl
@[simp] theorem run_ibuf (e : Ending) (s : State) : (e.run s).ibuf = s.ibuf := by cases e <;> rfl

/-- A command completes, with `ERR.valid` at 0, or its error record is that of a fault. -/
theorem run_err (e : Ending) (s : State) :
    (e.run s).err.valid = false ∨ ∃ k corr, (e.run s).err = faultRecord k corr (Config.freeErr s.draws) := by
  cases e with
  | fault k corr => exact .inr ⟨k, corr, rfl⟩
  | packageFault k => exact .inr ⟨k, none, rfl⟩
  | _ => exact .inl rfl

/-- The error record is a function of the way to end and of the counter of free values. -/
theorem run_err_congr (e : Ending) {s s' : State} (hd : s'.draws = s.draws) : (e.run s').err = (e.run s).err := by
  cases e <;> simp [Ending.run, hd]

/-- So is `CRC`, for a command other than `CRC.BYTE` (R21). -/
theorem run_crc_congr {i : Instr} {e : Ending} {s s' : State} (ha : e.allowedFor i) (hi : readsCrc i = false)
    (hd : s'.draws = s.draws) : (e.run s').crc = (e.run s).crc := by
  cases e with
  | shiftCrc b => exact absurd (hi.symm.trans ha) Bool.false_ne_true
  | _ => simp [Ending.run, hd]

/-- `OBUF` is left, or is bytes that do not depend on what it held. -/
theorem run_obuf (e : Ending) :
    (∀ s, (e.run s).obuf = s.obuf) ∨ ∃ bs : Nat → Bytes, ∀ s, (e.run s).obuf = .ofBytes (bs s.draws) := by
  cases e with
  | emit bs | frame bs => exact .inr ⟨fun _ => bs, fun _ => by simp [Ending.run]⟩
  | fault k corr => exact .inr ⟨Config.freeBytes, fun _ => by simp [Ending.run]⟩
  | packageFault k => exact .inr ⟨fun _ => [], fun _ => rfl⟩
  | _ => exact .inl fun _ => rfl

/-- The result record is left, or is one that does not depend on what it was. -/
theorem run_result (e : Ending) :
    (∀ s, (e.run s).result = s.result) ∨ ∃ r : Nat → Result, ∀ s, (e.run s).result = r s.draws := by
  cases e with
  | blockCrc c r | deliver r | read r pos => exact .inr ⟨fun _ => r, fun _ => rfl⟩
  | response r => exact .inr ⟨fun _ => .response r, fun _ => rfl⟩
  | fault k corr | packageFault k => exact .inr ⟨Config.freeResult, fun _ => rfl⟩
  | loadCrc c | shiftCrc b | emit bs | frame bs => exact .inl fun _ => rfl

/-- `STEP` is left, is 7 or 9, or is the free value of a fault, which is in 1 to 9 (R24). -/
theorem run_stepCtr_mem {e : Ending} {s : State} (h : 1 ≤ s.stepCtr ∧ s.stepCtr ≤ 9) :
    1 ≤ (e.run s).stepCtr ∧ (e.run s).stepCtr ≤ 9 := by
  cases e with
  | frame bs => exact (by decide : 1 ≤ 7 ∧ 7 ≤ 9)
  | response r => exact (by decide : 1 ≤ 9 ∧ 9 ≤ 9)
  | fault k corr | packageFault k => exact ⟨Nat.succ_pos _, (Config.freeStep s.draws).isLt⟩
  | _ => exact h

/-! ### No command writes the host's side, and few write `OBUF` -/

/-- Settles O10: no way to end writes the configuration, the ports, the list or `IBUF`. -/
theorem configurationAndInputNeverWritten : Obligations.ConfigurationAndInputNeverWritten := by
  intro i s t h
  obtain ⟨e, -, rfl, -⟩ := exec_eq_next h
  exact HostSideKept.of_eq (run_params e s) (run_ports e s) (run_script e s) (run_ibuf e s)

/-- Settles O11: the ways to end that write `OBUF` are a fault, which does not complete, and the two that are allowed only
for the commands that write it. -/
theorem onlyOutputCommandsWriteObuf : Obligations.OnlyOutputCommandsWriteObuf := by
  intro i s t hi h hv
  obtain ⟨e, ha, rfl, -⟩ := exec_eq_next h
  cases e with
  | emit bs | frame bs => exact absurd (hi.symm.trans ha) Bool.false_ne_true
  | fault k corr | packageFault k => cases hv
  | _ => exact ObufKept.refl s

/-! ### Noninterference -/

/-- Settles O12: from states that a command sees the same of it ends in the same way, and what it writes in that way is a
function of the way and of the counter of free values. -/
theorem commandsIgnoreEarlierCommands : Obligations.CommandsIgnoreEarlierCommands := by
  intro i s s' t hi hparams hports hibuf hd h
  obtain ⟨e, ha, rfl, hsame⟩ := exec_eq_next h
  have hview : s'.view = s.view := by simp [State.view, hparams, hports, hibuf]
  refine ⟨e.run s', hsame s' hview, run_err_congr e hd, run_crc_congr ha hi hd, ?_, ?_⟩
  · obtain hkept | ⟨bs, hbs⟩ := run_obuf e
    · exact .inr ⟨hkept s, hkept s'⟩
    · exact .inl (by rw [hbs, hbs, hd])
  · obtain hkept | ⟨r, hr⟩ := run_result e
    · exact .inr ⟨hkept s, hkept s'⟩
    · exact .inl (by rw [hr, hr, hd])

/-! ### The invariant -/

theorem errKindCode_mem (k : ErrKind) : 1 ≤ (errKindCode k).toNat ∧ (errKindCode k).toNat ≤ 8 := by cases k <;> decide

/-- The record of a fault holds a message id only beside an operation code (R210). -/
theorem faultRecord_hasOp {k : ErrKind} {corr : Option Correlation} {free : ErrRecord}
    (h : (faultRecord k corr free).hasMsgId = true) : (faultRecord k corr free).hasOp = true := by
  cases corr with
  | none => cases h
  | some c => rfl

/-- Every way to end keeps the invariant. -/
theorem run_inv {s : State} (h : s.inv) (e : Ending) : (e.run s).inv := by
  obtain ⟨hibuf, hobuf, hlo, hhi, hparams, -, hscript⟩ := h
  have hstep := run_stepCtr_mem (e := e) ⟨hlo, hhi⟩
  refine ⟨by simpa using hibuf, ?_, hstep.1, hstep.2, by simpa using hparams, fun hv => ?_, by simpa using hscript⟩
  · obtain hkept | ⟨bs, hbs⟩ := run_obuf e
    · rw [hkept, hobuf]
    · rw [hbs, ofBytes_wf]
  · obtain hdone | ⟨k, corr, herr⟩ := run_err e s
    · exact absurd (hdone.symm.trans hv) Bool.false_ne_true
    · rw [herr]
      exact ⟨(errKindCode_mem k).1, (errKindCode_mem k).2, faultRecord_hasOp⟩

/-- Whatever the source of the input, `IBUF` is filled in canonical form. -/
theorem fillInput_wf {s : State} (h : s.ibuf.wf = true) (src : InputSource) : (fillInput src s).wf = true := by
  cases src with
  | bytes bs => exact ofBytes_wf bs
  | fromObuf => exact ofBytes_wf s.obuf.bytes
  | held => exact h

/-- Taking a command keeps the invariant: the configuration it hands over was in the host's list, so it is legal. -/
theorem accept_inv {s : State} {i : Issue} {rest : List HostAction} (h : s.inv) (hs : s.script = .command i :: rest) :
    (accept i rest s).inv := by
  obtain ⟨hibuf, hobuf, hlo, hhi, hparams, herr, hscript⟩ := h
  rw [hs] at hscript
  refine ⟨fillInput_wf hibuf i.input, hobuf, hlo, hhi, ?_, herr, fun a ha => hscript a (List.mem_cons_of_mem _ ha)⟩
  have hissue : ∀ p ∈ i.params, paramsWf p = true := hscript (.command i) List.mem_cons_self
  cases hp : i.params with
  | none => simpa [hp] using hparams
  | some p => simpa [hp] using hissue p hp

/-- A reset taken from the host's list keeps the invariant. -/
theorem takeReset_inv {s : State} {rest : List HostAction} (h : s.inv) (hs : s.script = .reset :: rest) :
    (takeReset rest s).inv := by
  obtain ⟨-, -, -, -, hparams, -, hscript⟩ := h
  rw [hs] at hscript
  exact ⟨rfl, rfl, by simp, by simp, hparams, by simp, fun a ha => hscript a (List.mem_cons_of_mem _ ha)⟩

/-- What a step that answers a next state has done: nothing, a reset, or a command, taken and ended. -/
theorem step_eq_next {s t : State} (h : step s = .next t) :
    (s.script = [] ∧ t = s) ∨ (∃ rest, s.script = .reset :: rest ∧ t = takeReset rest s) ∨
      ∃ (i : Issue) (rest : List HostAction) (instr : Instr),
        s.script = .command i :: rest ∧ fetch i = .ok instr ∧ exec instr (accept i rest s) = .next t := by
  unfold step at h
  split at h
  case h_1 hs => exact .inl ⟨hs, (Host.Outcome.next.inj h).symm⟩
  case h_2 rest hs => exact .inr (.inl ⟨rest, hs, (Host.Outcome.next.inj h).symm⟩)
  case h_3 i rest hs =>
    split at h
    case h_1 => cases h
    case h_2 instr hf => exact .inr (.inr ⟨i, rest, instr, hs, hf, h⟩)

/-- Settles O3: an idle step changes nothing, a reset and the taking of a command keep the invariant, and so does every
way a command ends. -/
theorem stepKeepsInvariant : Obligations.StepKeepsInvariant := by
  intro s t hinv h
  obtain ⟨-, rfl⟩ | ⟨rest, hs, rfl⟩ | ⟨i, rest, instr, hs, -, hexec⟩ := step_eq_next h
  · exact hinv
  · exact takeReset_inv hinv hs
  · obtain ⟨e, -, rfl, -⟩ := exec_eq_next hexec
    exact run_inv (accept_inv hinv hs) e

end Sys2Proof.Machine
end

section
/-! PROOFS. The encodings (spec/30_encoding.md). A word is put together from fields and taken apart again; with that, the
decoder of each format is the inverse of the encoder on the well-formed instructions of the format. -/

namespace Sys2Proof

/-! ### Words put together from fields

Each layout is one `↔`: read to the right it gives the fields of a word put together, read to the left it puts a word together
from its own fields. -/

theorem append_eq_iff_fields {m n : Nat} {x : BitVec m} {y : BitVec n} {w : BitVec (m + n)} :
    x ++ y = w ↔ w.extractLsb' n m = x ∧ w.extractLsb' 0 n = y := by
  constructor
  · rintro rfl
    exact ⟨BitVec.extractLsb'_append_eq_left, BitVec.extractLsb'_append_eq_right⟩
  · rintro ⟨rfl, rfl⟩
    exact BitVec.extractLsb'_append_extractLsb'

theorem extractLsb'_extractLsb' {w : Nat} (x : BitVec w) {start len start' len' : Nat} (h : start' + len' ≤ len) :
    (x.extractLsb' start len).extractLsb' start' len' = x.extractLsb' (start + start') len' := by
  ext k hk
  have hlt : start' + k < len := by omega
  simp [hlt, Nat.add_assoc]

theorem append_append_eq_iff_fields {k m n : Nat} {x : BitVec k} {y : BitVec m} {z : BitVec n} {w : BitVec (k + m + n)} :
    x ++ y ++ z = w ↔ w.extractLsb' (n + m) k = x ∧ w.extractLsb' n m = y ∧ w.extractLsb' 0 n = z := by
  rw [append_eq_iff_fields, eq_comm, append_eq_iff_fields, extractLsb'_extractLsb' w (Nat.le_of_eq (Nat.add_comm m k)),
    extractLsb'_extractLsb' w (by omega), Nat.add_zero, and_assoc]

/-- `CMD` below a bit 7 of 0, and `VT` (R61). -/
theorem commandByte_eq_iff {cmd : BitVec 4} {vt : BitVec 3} {b : Byte} :
    0#1 ++ cmd ++ vt = b ↔ b.extractLsb' 3 5 = 0#1 ++ cmd ∧ b.extractLsb' 0 3 = vt := append_eq_iff_fields

/-- Bit 7, bit 6 and the six bits below them (R66, R69). -/
theorem codeByte_eq_iff {operation level : BitVec 1} {low : BitVec 6} {b : Byte} :
    operation ++ level ++ low = b ↔ b.extractLsb' 7 1 = operation ∧ b.extractLsb' 6 1 = level ∧ b.extractLsb' 0 6 = low :=
  append_append_eq_iff_fields

/-- The flag in bit 7 and the version below it (R64). -/
theorem versionByte_eq_iff {flag : BitVec 1} {rawVersion : BitVec 7} {b : Byte} :
    flag ++ rawVersion = b ↔ b.extractLsb' 7 1 = flag ∧ b.extractLsb' 0 7 = rawVersion := append_eq_iff_fields

/-- The class and the high bits of the length, in the first byte of a length word (R77). -/
theorem prefixByte_eq_iff {size : BitVec 2} {high : BitVec 6} {b : Byte} :
    size ++ high = b ↔ b.extractLsb' 6 2 = size ∧ b.extractLsb' 0 6 = high := append_eq_iff_fields

/-- The length of the two-byte class (R77). -/
theorem length14_eq_iff {high : BitVec 6} {b1 : Byte} {len : BitVec 14} :
    high ++ b1 = len ↔ len.extractLsb' 8 6 = high ∧ len.extractLsb' 0 8 = b1 := append_eq_iff_fields

/-- The length of the three-byte class (R77). -/
theorem length22_eq_iff {high : BitVec 6} {b1 b2 : Byte} {len : BitVec 22} :
    high ++ b1 ++ b2 = len ↔ len.extractLsb' 16 6 = high ∧ len.extractLsb' 8 8 = b1 ∧ len.extractLsb' 0 8 = b2 :=
  append_append_eq_iff_fields

/-- The length of the four-byte class (R77). -/
theorem length30_eq_iff {high : BitVec 6} {b1 b2 b3 : Byte} {len : BitVec 30} :
    high ++ b1 ++ b2 ++ b3 = len ↔
      len.extractLsb' 24 6 = high ∧ len.extractLsb' 16 8 = b1 ∧ len.extractLsb' 8 8 = b2 ∧ len.extractLsb' 0 8 = b3 := by
  have hlast : high ++ b1 ++ b2 ++ b3 = len ↔ len.extractLsb' 8 22 = high ++ b1 ++ b2 ∧ len.extractLsb' 0 8 = b3 :=
    append_eq_iff_fields
  rw [hlast, eq_comm, length22_eq_iff, extractLsb'_extractLsb' len (by decide), extractLsb'_extractLsb' len (by decide),
    extractLsb'_extractLsb' len (by decide), and_assoc, and_assoc]

/-- The two bytes of a function id, high byte first (R40). -/
theorem fidBytes_eq_iff {w : Half} {hi lo : Byte} : fidBytes w = [hi, lo] ↔ hi ++ lo = w := by
  have hbytes : hi ++ lo = w ↔ w.extractLsb' 8 8 = hi ∧ w.extractLsb' 0 8 = lo := append_eq_iff_fields
  simp [fidBytes, hbytes]

/-- The three fields of a function id (R71). -/
theorem fidOf_eq_iff {dataType : BitVec 3} {functionType : BitVec 2} {resourceId : BitVec 11} {w : Half} :
    fidOf dataType functionType resourceId = w ↔
      w.extractLsb' 13 3 = dataType ∧ w.extractLsb' 11 2 = functionType ∧ w.extractLsb' 0 11 = resourceId :=
  append_append_eq_iff_fields

/-- The range bits of a resource id and the bits below them (R74). -/
theorem rangeId_eq_iff {range : BitVec 3} {low : BitVec 8} {resourceId : BitVec 11} :
    range ++ low = resourceId ↔ resourceId.extractLsb' 8 3 = range ∧ resourceId.extractLsb' 0 8 = low :=
  append_eq_iff_fields

/-- A resource id below 0x400 (R74). -/
theorem lowId_eq_iff {low : BitVec 10} {resourceId : BitVec 11} :
    0#1 ++ low = resourceId ↔ resourceId.extractLsb' 10 1 = 0#1 ∧ resourceId.extractLsb' 0 10 = low := append_eq_iff_fields

/-! ### The fields of the encoder's words -/

@[simp] theorem commandByte_cmd (cmd : BitVec 4) (vt : BitVec 3) : (0#1 ++ cmd ++ vt : Byte).extractLsb' 3 5 = 0#1 ++ cmd :=
  (commandByte_eq_iff.mp rfl).1

@[simp] theorem commandByte_vt (cmd : BitVec 4) (vt : BitVec 3) : (0#1 ++ cmd ++ vt : Byte).extractLsb' 0 3 = vt :=
  (commandByte_eq_iff.mp rfl).2

section
variable (operation level : BitVec 1) (low : BitVec 6)

@[simp] theorem codeByte_operation : (operation ++ level ++ low : Byte).extractLsb' 7 1 = operation :=
  (codeByte_eq_iff.mp rfl).1

@[simp] theorem codeByte_level : (operation ++ level ++ low : Byte).extractLsb' 6 1 = level := (codeByte_eq_iff.mp rfl).2.1

@[simp] theorem codeByte_low : (operation ++ level ++ low : Byte).extractLsb' 0 6 = low := (codeByte_eq_iff.mp rfl).2.2

end

section
variable (dataType : BitVec 3) (functionType : BitVec 2) (resourceId : BitVec 11)

@[simp] theorem fidOf_dataType : (fidOf dataType functionType resourceId).extractLsb' 13 3 = dataType :=
  (fidOf_eq_iff.mp rfl).1

@[simp] theorem fidOf_functionType : (fidOf dataType functionType resourceId).extractLsb' 11 2 = functionType :=
  (fidOf_eq_iff.mp rfl).2.1

/-- Any bits of the resource id, in particular the whole of it. -/
theorem fidOf_resourceId {start len : Nat} (h : start + len ≤ 11) :
    (fidOf dataType functionType resourceId).extractLsb' start len = resourceId.extractLsb' start len :=
  BitVec.extractLsb'_append_eq_of_add_le h

end

@[simp] theorem rangeId_range (range : BitVec 3) (low : BitVec 8) : (range ++ low : BitVec 11).extractLsb' 8 3 = range :=
  (rangeId_eq_iff.mp rfl).1

@[simp] theorem rangeId_low (range : BitVec 3) (low : BitVec 8) : (range ++ low : BitVec 11).extractLsb' 0 8 = low :=
  (rangeId_eq_iff.mp rfl).2

@[simp] theorem lowId_bit (low : BitVec 10) : (0#1 ++ low : BitVec 11).extractLsb' 10 1 = 0#1 := (lowId_eq_iff.mp rfl).1

@[simp] theorem lowId_low (low : BitVec 10) : (0#1 ++ low : BitVec 11).extractLsb' 0 10 = low := (lowId_eq_iff.mp rfl).2

@[simp] theorem prefixByte_size (size : BitVec 2) (high : BitVec 6) : (size ++ high : Byte).extractLsb' 6 2 = size :=
  (prefixByte_eq_iff.mp rfl).1

@[simp] theorem prefixByte_high (size : BitVec 2) (high : BitVec 6) : (size ++ high : Byte).extractLsb' 0 6 = high :=
  (prefixByte_eq_iff.mp rfl).2

@[simp] theorem versionByte_flag (flag : BitVec 1) (rawVersion : BitVec 7) :
    (flag ++ rawVersion : Byte).extractLsb' 7 1 = flag := (versionByte_eq_iff.mp rfl).1

@[simp] theorem versionByte_rawVersion (flag : BitVec 1) (rawVersion : BitVec 7) :
    (flag ++ rawVersion : Byte).extractLsb' 0 7 = rawVersion := (versionByte_eq_iff.mp rfl).2

/-! ### The decoders of the formats, row by row -/

/-- A code is listed by value at sub-device level when its number is (R69). -/
theorem mem_namedSubDeviceCodes_iff {b : Byte} :
    b ∈ namedSubDeviceCodes ↔ b.toNat ∈ namedSubDeviceCodes.map BitVec.toNat :=
  (List.mem_map_of_injective fun _ _ => BitVec.eq_of_toNat_eq).symm

/-- Outside the codes listed by value, bit 6 alone chooses the row (R69). -/
theorem decodeTreatment_of_unlisted {b : Byte} (hbare : b ≠ 0x01) (hnamed : b ∉ namedSubDeviceCodes) :
    decodeTreatment b =
      if b.extractLsb' 6 1 = 1#1 then .opcsetModeaDefault (b.extractLsb' 7 1) (b.extractLsb' 0 6)
      else .opcsetDeviceDefault (b.extractLsb' 7 1) (b.extractLsb' 0 6) := by
  rw [mem_namedSubDeviceCodes_iff] at hnamed
  unfold decodeTreatment
  split
  case h_1 hb => exact absurd (BitVec.eq_of_toNat_eq hb) hbare
  case h_12 => rfl
  all_goals
    next hb => exact absurd (by rw [hb]; decide) hnamed

/-- The codes listed by value at sub-device level have bit 6 set (R69). -/
theorem namedSubDeviceCodes_level {b : Byte} (h : b ∈ namedSubDeviceCodes) : b.extractLsb' 6 1 = 1#1 :=
  (by decide : ∀ c ∈ namedSubDeviceCodes, c.extractLsb' 6 1 = 1#1) b h

/-- Below resource id 0x400 the range bits choose the default row (R74). -/
theorem decodeFidResourceType_of_lt {w : Half} (h : (w.extractLsb' 8 3).toNat < 4) :
    decodeFidResourceType w =
      .fid16ResourceTypeCommon000To3ff (w.extractLsb' 13 3) (w.extractLsb' 11 2) (w.extractLsb' 0 10) := by
  unfold decodeFidResourceType
  split
  case h_5 => rfl
  all_goals omega

/-- The range bits are below 4 exactly when bit 10 is 0. -/
theorem rangeBits_lt_four_iff {w : Half} : (w.extractLsb' 8 3).toNat < 4 ↔ w.extractLsb' 10 1 = 0#1 := by
  rw [← BitVec.toNat_inj]
  simp only [BitVec.extractLsb'_toNat, Nat.shiftRight_eq_div_pow, BitVec.toNat_ofNat]
  omega

/-- The version bits are 0 in the two illegal first bytes and in no other (R64). -/
theorem rawVersion_eq_zero_iff {b : Byte} : b.extractLsb' 0 7 = 0#7 ↔ b = 0x00 ∨ b = 0x80 := by
  constructor
  · intro h
    have hb : b.extractLsb' 7 1 ++ 0#7 = b := versionByte_eq_iff.mpr ⟨rfl, h⟩
    obtain hflag | hflag := BitVec.eq_zero_or_eq_one (b.extractLsb' 7 1)
    · exact .inl (by rw [← hb, hflag]; rfl)
    · exact .inr (by rw [← hb, hflag]; rfl)
  · rintro (rfl | rfl) <;> rfl

/-- A first byte that is not illegal: bit 7 alone chooses the row (R64). -/
theorem decodeVersion_of_rawVersion {b : Byte} (h : b.extractLsb' 0 7 ≠ 0#7) :
    decodeVersion b =
      if b.extractLsb' 7 1 = 1#1 then .verWithMsgId (b.extractLsb' 0 7) else .verNoMsgId (b.extractLsb' 0 7) := by
  rw [ne_eq, rawVersion_eq_zero_iff, not_or] at h
  obtain ⟨h00, h80⟩ := h
  unfold decodeVersion
  split
  case h_1 hb => exact absurd (BitVec.eq_of_toNat_eq hb) h00
  case h_2 hb => exact absurd (BitVec.eq_of_toNat_eq hb) h80
  case h_3 => rfl

theorem fidBytes_joined (w : Half) : w.extractLsb' 8 8 ++ w.extractLsb' 0 8 = w := fidBytes_eq_iff.mp rfl

theorem decode_fidDataType (w : Half) : decode .fidDataType (fidBytes w) = .ok (decodeFidDataType w) := by
  simp only [fidBytes, decode, fidBytes_joined]

theorem decode_fidFunctionType (w : Half) : decode .fidFunctionType (fidBytes w) = .ok (decodeFidFunctionType w) := by
  simp only [fidBytes, decode, fidBytes_joined]

theorem decode_fidResourceType (w : Half) : decode .fidResourceType (fidBytes w) = .ok (decodeFidResourceType w) := by
  simp only [fidBytes, decode, fidBytes_joined]

/-! ### Decoding what was encoded -/

/-- Settles O7: the fields of the word an instruction is encoded to choose its row and give back its operands. The last
arm is the rows without operands, each one closed word. -/
theorem decodeOfEncodeIsIdentity : Obligations.DecodeOfEncodeIsIdentity := by
  intro i hwf
  cases i with
  | crcInit vt | crcByte vt | crcBlock vt | valSel vt | fidEnc vt | fidDec vt | opcEnc vt | opcDec vt | vlpEnc vt
  | vlpDec vt | pkg vt | parse vt | cmdReservedE vt | cmdReservedF vt =>
    show decodeCommand (0#1 ++ _ ++ vt) = _
    unfold decodeCommand
    rw [commandByte_cmd, commandByte_vt]
    rfl
  | opc8Resource00NotifyDefault | opc8Resource01Read | opc8Resource02Write | opc8Resource03Notify
  | opc8Resource04NotifyDefault | opc8Resource05NotifyDefault | opc8Resource06NotifyDefault
  | opc8Resource07NotifyDefault | opc8Resource08NotifyDefault | opc8Resource09NotifyDefault
  | opc8Resource0aNotifyDefault | opc8Resource0bNotifyDefault | opc8Resource0cNotifyDefault
  | opc8Resource0dNotifyDefault | opc8Resource0eNotifyDefault | opc8Resource0fNotifyDefault
  | opc8Resource10NotifyDefault | opc8Resource11NotifyDefault | opc8Resource12NotifyDefault
  | opc8Resource13NotifyDefault | opc8Resource14NotifyDefault | opc8Resource15NotifyDefault
  | opc8Resource16NotifyDefault | opc8Resource17NotifyDefault | opc8Resource18NotifyDefault
  | opc8Resource19NotifyDefault | opc8Resource1aNotifyDefault | opc8Resource1bNotifyDefault
  | opc8Resource1cNotifyDefault | opc8Resource1dNotifyDefault | opc8Resource1eNotifyDefault
  | opc8Resource1fNotifyDefault | opc8System00Reset | opc8System01Recovery | opc8System02RegisterDefault
  | opc8System03Deregister | opc8System04Enable | opc8System05Disable | opc8System06Label | opc8System07Upgrade
  | opc8System08RegisterDefault | opc8System09RegisterDefault | opc8System0aRegisterDefault
  | opc8System0bRegisterDefault | opc8System0cRegisterDefault | opc8System0dRegisterDefault
  | opc8System0eRegisterDefault | opc8System0fRegisterDefault | opc8System10RegisterDefault
  | opc8System11RegisterDefault | opc8System12RegisterDefault | opc8System13RegisterDefault
  | opc8System14RegisterDefault | opc8System15RegisterDefault | opc8System16RegisterDefault
  | opc8System17RegisterDefault | opc8System18RegisterDefault | opc8System19RegisterDefault
  | opc8System1aRegisterDefault | opc8System1bRegisterDefault | opc8System1cRegisterDefault
  | opc8System1dDeleteTopology | opc8System1eOffline | opc8System1fOnline =>
    show Except.ok (decodeOperationCode _) = _
    unfold decodeOperationCode
    rw [codeByte_operation, codeByte_level, codeByte_low]
    rfl
  | opcsetModeaDefault operation low =>
    have hnamed : operation ++ 1#1 ++ low ∉ namedSubDeviceCodes := of_decide_eq_true hwf
    have hlevel := codeByte_level operation 1#1 low
    have hbare : operation ++ 1#1 ++ low ≠ 0x01 := fun h => absurd (h ▸ hlevel) (by decide)
    show Except.ok (decodeTreatment _) = _
    rw [decodeTreatment_of_unlisted hbare hnamed, hlevel, codeByte_operation, codeByte_low]
    rfl
  | opcsetDeviceDefault operation low =>
    have hbare : operation ++ 0#1 ++ low ≠ 0x01 := of_decide_eq_true hwf
    have hlevel := codeByte_level operation 0#1 low
    have hnamed : operation ++ 0#1 ++ low ∉ namedSubDeviceCodes := fun h =>
      absurd (hlevel.symm.trans (namedSubDeviceCodes_level h)) (by decide)
    show Except.ok (decodeTreatment _) = _
    rw [decodeTreatment_of_unlisted hbare hnamed, hlevel, codeByte_operation, codeByte_low]
    rfl
  | fid16DataType0Reserved functionType resourceId | fid16DataType1Boolean functionType resourceId
  | fid16DataType2Enum functionType resourceId | fid16DataType3Integer functionType resourceId
  | fid16DataType4Float functionType resourceId | fid16DataType5Buffer functionType resourceId
  | fid16DataType6Exception functionType resourceId | fid16DataType7String functionType resourceId =>
    refine (decode_fidDataType _).trans ?_
    unfold decodeFidDataType
    rw [fidOf_dataType, fidOf_functionType, fidOf_resourceId _ _ _ (by decide), BitVec.extractLsb'_eq_self]
    rfl
  | fid16FunctionType0Reserve dataType resourceId | fid16FunctionType1Custom dataType resourceId
  | fid16FunctionType2Property dataType resourceId | fid16FunctionType3Event dataType resourceId =>
    refine (decode_fidFunctionType _).trans ?_
    unfold decodeFidFunctionType
    rw [fidOf_dataType, fidOf_functionType, fidOf_resourceId _ _ _ (by decide), BitVec.extractLsb'_eq_self]
    rfl
  | fid16ResourceTypeCommon000To3ff dataType functionType low =>
    refine (decode_fidResourceType _).trans ?_
    rw [decodeFidResourceType_of_lt, fidOf_dataType, fidOf_functionType, fidOf_resourceId _ _ _ (by decide), lowId_low]
    rw [rangeBits_lt_four_iff, fidOf_resourceId _ _ _ (by decide), lowId_bit]
  | fid16ResourceTypeCommon400To4ff dataType functionType low | fid16ResourceTypeCombine500To5ff dataType functionType low
  | fid16ResourceTypeCombine600To6ff dataType functionType low | fid16ResourceTypeStatic700To7ff dataType functionType low =>
    refine (decode_fidResourceType _).trans ?_
    unfold decodeFidResourceType
    rw [fidOf_dataType, fidOf_functionType, fidOf_resourceId _ _ _ (by decide), fidOf_resourceId _ _ _ (by decide),
      rangeId_range, rangeId_low]
    rfl
  | vlpClass1 len =>
    simp only [Instr.format, encode, decode, decodePrefix, prefixByte_size, prefixByte_high, if_true]
  | vlpClass2 len =>
    simp only [Instr.format, encode, decode, decodePrefix, prefixByte_size, prefixByte_high, if_true,
      length14_eq_iff.mpr ⟨rfl, rfl⟩]
  | vlpClass3 len =>
    simp only [Instr.format, encode, decode, decodePrefix, prefixByte_size, prefixByte_high, if_true,
      length22_eq_iff.mpr ⟨rfl, rfl, rfl⟩]
  | vlpClass4 len =>
    simp only [Instr.format, encode, decode, decodePrefix, prefixByte_size, prefixByte_high, if_true,
      length30_eq_iff.mpr ⟨rfl, rfl, rfl, rfl⟩]
  | verNoMsgId rawVersion | verWithMsgId rawVersion =>
    have hraw : rawVersion ≠ 0#7 := of_decide_eq_true hwf
    show Except.ok (decodeVersion _) = _
    rw [decodeVersion_of_rawVersion (by rwa [versionByte_rawVersion]), versionByte_flag, versionByte_rawVersion]
    rfl
  | _ => rfl

/-! ### Encoding what was decoded -/

/-- What O8 says of the instruction that a byte sequence is decoded to in a format. -/
def IsWordOf (fmt : Format) (bs : Bytes) (i : Instr) : Prop := i.wellFormed = true ∧ i.format = fmt ∧ encode i = bs

/-- The word of a one-byte row is its byte. -/
theorem singleton_congr {b c : Byte} (h : b = c) : [b] = [c] := congrArg (fun x : Byte => [x]) h

/-- A byte is put together again from its `VT` and the `CMD` its other bits are the number of. -/
theorem commandWord_of_fields {b : Byte} {cmd : BitVec 4} (h : (b.extractLsb' 3 5).toNat = (0#1 ++ cmd).toNat) :
    commandWord cmd (b.extractLsb' 0 3) = [b] :=
  singleton_congr (commandByte_eq_iff.mpr ⟨BitVec.eq_of_toNat_eq h, rfl⟩)

theorem decodeValEnc_isWordOf (vt : BitVec 3) : IsWordOf .cmdw (commandWord 0x3#4 vt) (decodeValEnc vt) := by
  have hword : ∀ k : BitVec 3, vt.toNat = k.toNat → commandWord 0x3#4 k = commandWord 0x3#4 vt :=
    fun k h => congrArg _ (BitVec.eq_of_toNat_eq h).symm
  unfold decodeValEnc
  split
  case h_8 =>
    have hlt := vt.isLt
    simp only [imp_false] at *
    exact ⟨rfl, rfl, hword 7#3 (by show _ = 7; omega)⟩
  all_goals
    next h => exact ⟨rfl, rfl, hword _ h⟩

theorem decodeValDec_isWordOf (vt : BitVec 3) : IsWordOf .cmdw (commandWord 0x4#4 vt) (decodeValDec vt) := by
  have hword : ∀ k : BitVec 3, vt.toNat = k.toNat → commandWord 0x4#4 k = commandWord 0x4#4 vt :=
    fun k h => congrArg _ (BitVec.eq_of_toNat_eq h).symm
  unfold decodeValDec
  split
  case h_8 =>
    have hlt := vt.isLt
    simp only [imp_false] at *
    exact ⟨rfl, rfl, hword 7#3 (by show _ = 7; omega)⟩
  all_goals
    next h => exact ⟨rfl, rfl, hword _ h⟩

theorem decodeCommand_eq_ok {b : Byte} {i : Instr} (h : decodeCommand b = .ok i) : IsWordOf .cmdw [b] i := by
  unfold decodeCommand at h
  split at h
  case h_4 hcmd =>
    cases h
    exact commandWord_of_fields (cmd := 0x3#4) hcmd ▸ decodeValEnc_isWordOf _
  case h_5 hcmd =>
    cases h
    exact commandWord_of_fields (cmd := 0x4#4) hcmd ▸ decodeValDec_isWordOf _
  case h_17 => cases h
  all_goals
    next hcmd =>
      cases h
      exact ⟨rfl, rfl, commandWord_of_fields hcmd⟩

theorem decodeOperationCode_isWordOf (b : Byte) : IsWordOf .opc8 [b] (decodeOperationCode b) := by
  have hword : ∀ method : BitVec 6, (b.extractLsb' 0 6).toNat = method.toNat →
      [b.extractLsb' 7 1 ++ b.extractLsb' 6 1 ++ method] = [b] := fun method h =>
    singleton_congr (codeByte_eq_iff.mpr ⟨rfl, rfl, BitVec.eq_of_toNat_eq h⟩)
  unfold decodeOperationCode
  split
  case h_64 =>
    have hlt := (b.extractLsb' 0 6).isLt
    simp only [imp_false] at *
    exact ⟨rfl, rfl, hword 0x3f#6 (by show _ = 63; omega)⟩
  all_goals
    next h => exact ⟨rfl, rfl, hword _ h⟩

theorem eq_zero_of_ne_one {x : BitVec 1} (h : x ≠ 1#1) : x = 0#1 := (BitVec.eq_zero_or_eq_one x).resolve_right h

theorem decodeTreatment_isWordOf (b : Byte) : IsWordOf .opcset [b] (decodeTreatment b) := by
  by_cases hlisted : b = 0x01 ∨ b ∈ namedSubDeviceCodes
  · simp only [namedSubDeviceCodes, List.mem_cons, List.not_mem_nil, or_false] at hlisted
    rcases hlisted with rfl | rfl | rfl | rfl | rfl | rfl | rfl | rfl | rfl | rfl | rfl <;> exact ⟨rfl, rfl, rfl⟩
  · obtain ⟨hbare, hnamed⟩ := not_or.mp hlisted
    rw [decodeTreatment_of_unlisted hbare hnamed]
    split
    case isTrue hlevel =>
      have hb := codeByte_eq_iff.mpr ⟨rfl, hlevel, rfl⟩
      exact ⟨decide_eq_true (by rwa [hb]), rfl, singleton_congr hb⟩
    case isFalse hlevel =>
      have hb := codeByte_eq_iff.mpr ⟨rfl, eq_zero_of_ne_one hlevel, rfl⟩
      exact ⟨decide_eq_true (by rwa [hb]), rfl, singleton_congr hb⟩

section
variable {hi lo : Byte}

theorem fidBytes_fidOf {dataType : BitVec 3} {functionType : BitVec 2} {resourceId : BitVec 11}
    (hd : (hi ++ lo : Half).extractLsb' 13 3 = dataType) (hf : (hi ++ lo : Half).extractLsb' 11 2 = functionType)
    (hr : (hi ++ lo : Half).extractLsb' 0 11 = resourceId) :
    fidBytes (fidOf dataType functionType resourceId) = [hi, lo] :=
  fidBytes_eq_iff.mpr (fidOf_eq_iff.mpr ⟨hd, hf, hr⟩).symm

theorem decodeFidDataType_isWordOf : IsWordOf .fidDataType [hi, lo] (decodeFidDataType (hi ++ lo)) := by
  have hword : ∀ d : BitVec 3, ((hi ++ lo : Half).extractLsb' 13 3).toNat = d.toNat → fidBytes (fidOf d _ _) = [hi, lo] :=
    fun d h => fidBytes_fidOf (BitVec.eq_of_toNat_eq h) rfl rfl
  unfold decodeFidDataType
  split
  case h_8 =>
    have hlt := ((hi ++ lo : Half).extractLsb' 13 3).isLt
    simp only [imp_false] at *
    exact ⟨rfl, rfl, hword 7#3 (by show _ = 7; omega)⟩
  all_goals
    next h => exact ⟨rfl, rfl, hword _ h⟩

theorem decodeFidFunctionType_isWordOf : IsWordOf .fidFunctionType [hi, lo] (decodeFidFunctionType (hi ++ lo)) := by
  have hword : ∀ f : BitVec 2, ((hi ++ lo : Half).extractLsb' 11 2).toNat = f.toNat → fidBytes (fidOf _ f _) = [hi, lo] :=
    fun f h => fidBytes_fidOf rfl (BitVec.eq_of_toNat_eq h) rfl
  unfold decodeFidFunctionType
  split
  case h_4 =>
    have hlt := ((hi ++ lo : Half).extractLsb' 11 2).isLt
    simp only [imp_false] at *
    exact ⟨rfl, rfl, hword 3#2 (by show _ = 3; omega)⟩
  all_goals
    next h => exact ⟨rfl, rfl, hword _ h⟩

theorem decodeFidResourceType_isWordOf : IsWordOf .fidResourceType [hi, lo] (decodeFidResourceType (hi ++ lo)) := by
  have hword : ∀ r : BitVec 3, ((hi ++ lo : Half).extractLsb' 8 3).toNat = r.toNat →
      fidBytes (fidOf _ _ (r ++ (hi ++ lo : Half).extractLsb' 0 8)) = [hi, lo] := fun r h =>
    fidBytes_fidOf rfl rfl (rangeId_eq_iff.mpr
      ⟨(extractLsb'_extractLsb' _ (by decide)).trans (BitVec.eq_of_toNat_eq h), extractLsb'_extractLsb' _ (by decide)⟩).symm
  by_cases hlow : ((hi ++ lo : Half).extractLsb' 8 3).toNat < 4
  · rw [decodeFidResourceType_of_lt hlow]
    have hid : 0#1 ++ (hi ++ lo : Half).extractLsb' 0 10 = (hi ++ lo : Half).extractLsb' 0 11 := lowId_eq_iff.mpr
      ⟨(extractLsb'_extractLsb' _ (by decide)).trans (rangeBits_lt_four_iff.mp hlow),
        extractLsb'_extractLsb' _ (by decide)⟩
    exact ⟨rfl, rfl, fidBytes_fidOf rfl rfl hid.symm⟩
  · unfold decodeFidResourceType
    split
    case h_5 =>
      have hlt := ((hi ++ lo : Half).extractLsb' 8 3).isLt
      simp only [imp_false] at *
      omega
    all_goals
      next h => exact ⟨rfl, rfl, hword _ h⟩

theorem decodeFidMarker_eq_ok {i : Instr} (h : decodeFidMarker (hi ++ lo) = .ok i) : IsWordOf .fidMarker [hi, lo] i := by
  unfold decodeFidMarker at h
  split at h
  case h_3 => cases h
  all_goals
    next hw =>
      cases h
      exact ⟨rfl, rfl, fidBytes_eq_iff.mpr (BitVec.eq_of_toNat_eq hw)⟩

end

/-- A check that answers `ok` has passed. -/
theorem check_of_eq_ok {ε α : Type} {c : Prop} [Decidable c] {a x : α} {e : ε}
    (h : (if c then .ok a else .error e : Except ε α) = .ok x) : c ∧ a = x := by
  split at h
  case isTrue hc => exact ⟨hc, Except.ok.inj h⟩
  case isFalse => cases h

theorem decodePrefix_eq_ok {bs : Bytes} {i : Instr} (h : decodePrefix bs = .ok i) : IsWordOf .vlp bs i := by
  unfold decodePrefix at h
  split at h
  case h_1 b0 =>
    obtain ⟨hsize, rfl⟩ := check_of_eq_ok h
    refine ⟨rfl, rfl, ?_⟩
    simp only [encode, prefixByte_eq_iff.mpr ⟨hsize, rfl⟩]
  case h_2 b0 b1 =>
    obtain ⟨hsize, rfl⟩ := check_of_eq_ok h
    obtain ⟨hhigh, h1⟩ := length14_eq_iff.mp (rfl : b0.extractLsb' 0 6 ++ b1 = _)
    refine ⟨rfl, rfl, ?_⟩
    simp only [encode, hhigh, h1, prefixByte_eq_iff.mpr ⟨hsize, rfl⟩]
  case h_3 b0 b1 b2 =>
    obtain ⟨hsize, rfl⟩ := check_of_eq_ok h
    obtain ⟨hhigh, h1, h2⟩ := length22_eq_iff.mp (rfl : b0.extractLsb' 0 6 ++ b1 ++ b2 = _)
    refine ⟨rfl, rfl, ?_⟩
    simp only [encode, hhigh, h1, h2, prefixByte_eq_iff.mpr ⟨hsize, rfl⟩]
  case h_4 b0 b1 b2 b3 =>
    obtain ⟨hsize, rfl⟩ := check_of_eq_ok h
    obtain ⟨hhigh, h1, h2, h3⟩ := length30_eq_iff.mp (rfl : b0.extractLsb' 0 6 ++ b1 ++ b2 ++ b3 = _)
    refine ⟨rfl, rfl, ?_⟩
    simp only [encode, hhigh, h1, h2, h3, prefixByte_eq_iff.mpr ⟨hsize, rfl⟩]
  case h_5 => cases h

theorem decodeVersion_isWordOf (b : Byte) : IsWordOf .ver [b] (decodeVersion b) := by
  by_cases hraw : b.extractLsb' 0 7 = 0#7
  · obtain rfl | rfl := rawVersion_eq_zero_iff.mp hraw <;> exact ⟨rfl, rfl, rfl⟩
  · rw [decodeVersion_of_rawVersion hraw]
    split
    case isTrue hflag =>
      exact ⟨decide_eq_true hraw, rfl, singleton_congr (versionByte_eq_iff.mpr ⟨hflag, rfl⟩)⟩
    case isFalse hflag =>
      exact ⟨decide_eq_true hraw, rfl,
        singleton_congr (versionByte_eq_iff.mpr ⟨eq_zero_of_ne_one hflag, rfl⟩)⟩

theorem decodeErrorKind_eq_ok {b : Byte} {i : Instr} (h : decodeErrorKind b = .ok i) : IsWordOf .errkind [b] i := by
  unfold decodeErrorKind at h
  split at h
  case h_9 => cases h
  all_goals
    next hb =>
      cases h
      exact ⟨rfl, rfl, singleton_congr (BitVec.eq_of_toNat_eq hb).symm⟩

/-- Settles O8: what each format's decoder accepts is a word of that format. -/
theorem encodeOfDecodeIsIdentity : Obligations.EncodeOfDecodeIsIdentity := by
  intro fmt bs i h
  unfold decode at h
  split at h
  case h_1 b => exact decodeCommand_eq_ok h
  case h_2 b => exact Except.ok.inj h ▸ decodeOperationCode_isWordOf b
  case h_3 b => exact Except.ok.inj h ▸ decodeTreatment_isWordOf b
  case h_4 hi lo => exact Except.ok.inj h ▸ decodeFidDataType_isWordOf
  case h_5 hi lo => exact Except.ok.inj h ▸ decodeFidFunctionType_isWordOf
  case h_6 hi lo => exact Except.ok.inj h ▸ decodeFidResourceType_isWordOf
  case h_7 hi lo => exact decodeFidMarker_eq_ok h
  case h_8 => exact decodePrefix_eq_ok h
  case h_9 b => exact Except.ok.inj h ▸ decodeVersion_isWordOf b
  case h_10 b => exact decodeErrorKind_eq_ok h
  case h_11 => cases h

/-- Settles O6: each word is evaluated. -/
theorem sampleWordsDecode : Obligations.SampleWordsDecode := by
  unfold Obligations.SampleWordsDecode
  exact ⟨rfl, rfl, rfl, rfl, rfl, rfl, rfl, rfl, rfl, rfl, rfl, rfl⟩

end Sys2Proof
end

section
/-! PROOFS. What the instructions make of their encodings: the reserved command codes (R81), the treatment rows (R69) and the
top-level group of a request (R84). -/

namespace Sys2Proof.Machine

open Sys2Proof

/-- Settles O13: both meanings are the refusal, whatever the state. -/
theorem reservedCodesAreRefused : Obligations.ReservedCodesAreRefused := by
  intro vt s
  exact ⟨rfl, rfl⟩

/-! ### The treatment rows -/

theorem isSubDevice_eq_true_iff {c : Byte} : isSubDevice c = true ↔ c.extractLsb' 6 1 = 1#1 := by
  rw [← BitVec.toNat_inj]
  simp [isSubDevice, BitVec.getLsbD, Nat.testBit_eq_decide_div_mod_eq, Nat.shiftRight_eq_div_pow]

/-- The sets of R225, R227 and R230 hold listed codes only. -/
theorem codeSets_subset : pairCodes ⊆ namedSubDeviceCodes ∧ tripleCodes ⊆ namedSubDeviceCodes ∧
    flattenCodes ⊆ namedSubDeviceCodes := by decide

/-- A sub-device code that is not listed by value is mode A, and its groups are not flattened (R220). -/
theorem treatmentOf_of_unlisted {c : Byte} (hlevel : c.extractLsb' 6 1 = 1#1) (hnamed : c ∉ namedSubDeviceCodes) :
    treatmentOf c = .modeA false := by
  obtain ⟨hpair, htriple, hflat⟩ := codeSets_subset
  have hsub := isSubDevice_eq_true_iff.mpr hlevel
  have hp : c ∉ pairCodes := fun h => hnamed (hpair h)
  have ht : c ∉ tripleCodes := fun h => hnamed (htriple h)
  have hf : c ∉ flattenCodes := fun h => hnamed (hflat h)
  simp [treatmentOf, hsub, modeBCount, hp, ht, flattens, hf]

/-- A device-level code is read as a list of function points, bare for the code 0x01 only (R215, R216). -/
theorem treatmentOf_of_device {c : Byte} (hlevel : c.extractLsb' 6 1 = 0#1) :
    treatmentOf c = .deviceLevel (bareMode c) := by
  have hsub : isSubDevice c ≠ true := fun h => absurd (hlevel.symm.trans (isSubDevice_eq_true_iff.mp h)) (by decide)
  simp [treatmentOf, hsub]

/-- A treatment row delivers the treatment of the code it is encoded to. -/
theorem exec_treatmentRow {i : Instr} (s : State) (hf : i.format = .opcset) (hwf : i.wellFormed = true) :
    ∃ c, encode i = [c] ∧ exec i s = selectTreatment (treatmentOf c) s := by
  cases i with
  | opcsetModeaDefault operation low =>
    have hnamed : operation ++ 1#1 ++ low ∉ namedSubDeviceCodes := of_decide_eq_true hwf
    exact ⟨_, rfl, by rw [treatmentOf_of_unlisted (codeByte_level operation 1#1 low) hnamed]; rfl⟩
  | opcsetDeviceDefault operation low =>
    have hbare : bareMode (operation ++ 0#1 ++ low) = false := decide_eq_false (of_decide_eq_true hwf)
    exact ⟨_, rfl, by rw [treatmentOf_of_device (codeByte_level operation 0#1 low), hbare]; rfl⟩
  | opcsetBareReadCode01 | opcsetModebN2Code7f | opcsetModebN2Code7e | opcsetModebN2Code64 | opcsetModebN2Code65
  | opcsetModebN3Code62 | opcsetModebN3Code63 | opcsetModebN3LastbareCode41 | opcsetModebN3LastbareCodec2
  | opcsetModeaFlattenCode43 | opcsetModeaFlattenCodec1 => exact ⟨_, rfl, rfl⟩
  | _ => cases hf

/-- Settles O56: a treatment row delivers the treatment of its code, and delivering a record leaves the rest. -/
theorem treatmentRowsSelect : Obligations.TreatmentRowsSelect := by
  intro i s hf hwf
  obtain ⟨c, hword, hexec⟩ := exec_treatmentRow s hf hwf
  exact ⟨_, c, hword, hexec, deliver_spec _ s⟩

/-! ### The top-level group of a request -/

/-- The arity is checked for the two READ requests only (R177). -/
theorem checkArity_of_unchecked {c : Byte} (h01 : c ≠ 0x01) (h41 : c ≠ 0x41) (n : Nat) : checkArity c n = .ok () := by
  have hdevice : isDeviceReadReq c = false := decide_eq_false h01
  have hsub : isSubDeviceReadReq c = false := decide_eq_false h41
  simp [checkArity, hdevice, hsub]

/-- Entries are packed bare for the device-level READ request only (R178). -/
theorem isBare_of_ne {c : Byte} (h01 : c ≠ 0x01) (n : Nat) : isBare c n = false := by
  have hdevice : isDeviceReadReq c = false := decide_eq_false h01
  simp [isBare, hdevice]

/-- One group entry packs as its members, wrapped (R181). -/
theorem encodeEntries_group (bare : Bool) (gid : Half) (ps : Entries) :
    encodeEntries bare (.cons (.group gid ps) .nil) = encodeEntries bare ps >>= wrap gid := by
  rw [encodeEntries, encodeEntry]
  cases encodeEntries bare ps with
  | error k => rfl
  | ok inner => cases hw : wrap gid inner <;> simp [hw, encodeEntries, bind, Except.bind]

/-- What `PKG` does where the arity is not checked (R172, R185): step 6 wraps what step 5 makes of the entries. -/
theorem packageFrame_of_unchecked {p : Params} {req : Request} (h01 : opByte p req ≠ 0x01) (h41 : opByte p req ≠ 0x41) :
    packageFrame p req = (do
      let ver ← versionByte req.rawVersion req.id
      let rc ← respBytes (opByte p req) req.code
      let payload ← encodeEntries false req.params >>= wrapTop req.groupId
      .ok (stampFrame ([ver] ++ msgIdBytes req.id ++ [opByte p req] ++ rc ++ payload))) := by
  simp only [packageFrame, checkArity_of_unchecked h01 h41, isBare_of_ne h01, bind_assoc]
  rfl

/-- Settles O39: a request with a top-level group and one with the group entry differ in the payload only, and there a group
entry is in step 5 what step 6 makes of its members. -/
theorem topGroupIsGroupEntry : Obligations.TopGroupIsGroupEntry := by
  intro p req gid h01 h41
  have hpayload : encodeEntries false req.params >>= wrapTop (some gid) =
      encodeEntries false (.cons (.group gid req.params) .nil) >>= wrapTop none := by
    rw [encodeEntries_group]
    exact (bind_pure _).symm
  rw [packageFrame_of_unchecked (req := { req with groupId := some gid }) h01 h41, hpayload]
  exact (packageFrame_of_unchecked (req := { req with groupId := none, params := .cons (.group gid req.params) .nil })
    h01 h41).symm

end Sys2Proof.Machine
end

section
/-! PROOFS. The CRC16 engine (spec/40_crc16.md). A round is one-to-one and, on a register whose high bits are clear, a plain
shift; the three commands write what the fold of the byte step gives. -/

namespace Sys2Proof.Machine

open Sys2Proof

/-! ### The round (R103) -/

/-- The polynomial has bit 0 set and the shift brings in 0, so bit 0 after a round is bit 15 before it. -/
theorem getLsbD_zero_crcRound (r : Half) : (crcRound r).getLsbD 0 = r.getLsbD 15 := by
  unfold crcRound
  split
  case isTrue h => simp [h, crcPoly]
  case isFalse h => simpa using h

/-- Bit 15 and the shift by one together hold all of a register. -/
theorem eq_of_shiftLeft_one_eq {r r' : Half} (htop : r.getLsbD 15 = r'.getLsbD 15) (hlow : r <<< 1 = r' <<< 1) :
    r = r' := by
  refine BitVec.eq_of_getLsbD_eq fun i hi => ?_
  obtain rfl | hne := eq_or_ne i 15
  · exact htop
  · have hbit : (r <<< 1).getLsbD (i + 1) = (r' <<< 1).getLsbD (i + 1) := by rw [hlow]
    simpa [BitVec.getLsbD_shiftLeft, show i + 1 < 16 by omega, -BitVec.getLsbD_eq_getElem] using hbit

/-- Bit 0 of the result tells which way the round went, so the round can be undone. -/
theorem crcRound_injective : Function.Injective crcRound := by
  intro r r' h
  have htop : r.getLsbD 15 = r'.getLsbD 15 := by rw [← getLsbD_zero_crcRound, h, getLsbD_zero_crcRound]
  refine eq_of_shiftLeft_one_eq htop ?_
  unfold crcRound at h
  rw [htop] at h
  split at h
  case isTrue => exact BitVec.xor_left_inj _ |>.mp h
  case isFalse => exact h

theorem crcRounds_injective (n : Nat) : Function.Injective (crcRounds n) := by
  induction n with
  | zero => exact fun _ _ h => h
  | succ n ih => exact ih.comp crcRound_injective

/-- A register below 2^15 is doubled: bit 15 is clear, and no bit is lost. -/
theorem toNat_crcRound_of_lt {r : Half} (h : r.toNat < 2 ^ 15) : (crcRound r).toNat = 2 * r.toNat := by
  have htop : r.getLsbD 15 = false := Nat.testBit_lt_two_pow h
  have hshift : crcRound r = r <<< 1 := by simp only [crcRound, htop, Bool.false_eq_true, if_false]
  rw [hshift, BitVec.toNat_shiftLeft, Nat.shiftLeft_eq, Nat.mod_eq_of_lt (by omega), pow_one, Nat.mul_comm]

/-- As long as no set bit is shifted out, `n` rounds are a shift by `n`. -/
theorem toNat_crcRounds_of_lt {n : Nat} {r : Half} (h : 2 ^ n * r.toNat < 2 ^ 16) :
    (crcRounds n r).toNat = 2 ^ n * r.toNat := by
  induction n generalizing r with
  | zero => simp [crcRounds]
  | succ n ih =>
    have hpow : 2 ^ (n + 1) * r.toNat = 2 ^ n * (2 * r.toNat) := by ring
    rw [hpow] at h ⊢
    have hdouble : 2 * r.toNat < 2 ^ 16 := (Nat.le_mul_of_pos_left _ (Nat.two_pow_pos n)).trans_lt h
    have hround : (crcRound r).toNat = 2 * r.toNat := toNat_crcRound_of_lt (by omega)
    rw [crcRounds, ih (by rwa [hround]), hround]

/-- Settles O15: the rule is the definition of the round, and the corner cases are evaluated. -/
theorem crcRoundShiftsAndReduces : Obligations.CrcRoundShiftsAndReduces := by
  refine ⟨fun r => rfl, ?_⟩
  decide

/-! ### The byte step (R102) -/

/-- The step in the spec's words: eight rounds, the byte widened and shifted into bits 15 to 8. -/
theorem crcStep_eq (r : Half) (b : Byte) :
    crcStep r b = crcRound (crcRound (crcRound (crcRound (crcRound (crcRound (crcRound (crcRound
      (r ^^^ (BitVec.ofNat 16 b.toNat <<< 8))))))))) := by
  rw [BitVec.ofNat_toNat]
  rfl

/-- For a fixed byte the step is one-to-one in the register. -/
theorem crcStep_left_injective (b : Byte) : Function.Injective (crcStep · b) := fun _ _ h =>
  (BitVec.xor_left_inj _).mp (crcRounds_injective 8 h)

/-- For a fixed register the step is one-to-one in the byte. -/
theorem crcStep_right_injective (r : Half) : Function.Injective (crcStep r) := by
  intro b b' h
  have hshift := (BitVec.xor_right_inj _).mp (crcRounds_injective 8 h)
  have hnat : b.toNat * 256 % 65536 = b'.toNat * 256 % 65536 := by
    simpa [Nat.shiftLeft_eq] using congrArg BitVec.toNat hshift
  exact BitVec.eq_of_toNat_eq (by omega)

/-- A register's own high byte, shifted in, cancels it, and eight rounds move the low byte up. -/
theorem crcStep_high (hi lo : Byte) : crcStep (hi ++ lo) hi = lo ++ 0#8 := by
  have hcancel : (hi ++ lo : Half) ^^^ (hi.zeroExtend 16 <<< 8) = lo.zeroExtend 16 := by
    refine BitVec.eq_of_getLsbD_eq fun i hlt => ?_
    rw [BitVec.getLsbD_xor, BitVec.getLsbD_append]
    by_cases hlow : i < 8
    · simp [hlow, hlt]
    · simp [hlow, hlt, BitVec.getLsbD_of_ge lo i (by omega)]
  have hlo : (lo.zeroExtend 16).toNat = lo.toNat := BitVec.toNat_setWidth_of_le (by decide)
  refine BitVec.eq_of_toNat_eq ?_
  rw [crcStep, hcancel, toNat_crcRounds_of_lt (by omega), hlo, BitVec.toNat_append]
  simp [Nat.shiftLeft_eq, Nat.mul_comm]

/-! ### The register after a byte sequence (R104, R106) -/

theorem crcFrom_append (r : Half) (bs cs : Bytes) : crcFrom r (bs ++ cs) = crcFrom (crcFrom r bs) cs :=
  List.foldl_append

theorem crcFrom_left_injective (bs : Bytes) : Function.Injective (crcFrom · bs) := by
  induction bs with
  | nil => exact fun _ _ h => h
  | cons b bs ih => exact ih.comp (crcStep_left_injective b)

/-- A register's own two bytes, high byte first, clear it. -/
theorem crcFrom_beBytes_self (r : Half) : crcFrom r (beBytes 2 r.toNat) = 0 := by
  have hsplit : r = r.extractLsb' 8 8 ++ r.extractLsb' 0 8 := by
    rw [BitVec.extractLsb'_append_extractLsb'_eq_extractLsb' (by rfl)]
    simp
  rw [beBytes_half]
  generalize r.extractLsb' 8 8 = hi, r.extractLsb' 0 8 = lo at hsplit
  calc crcFrom r [hi, lo] = crcStep (crcStep (hi ++ lo) hi) lo := by rw [hsplit]; rfl
    _ = crcStep (lo ++ 0#8) lo := by rw [crcStep_high]
    _ = 0#8 ++ 0#8 := crcStep_high lo 0#8

/-- Settles O18: after the sequence the register is the code, and the code's own bytes clear it. -/
theorem crcResidueIsZero : Obligations.CrcResidueIsZero := by
  intro bs
  rw [crcBlock, crcFrom_append]
  exact crcFrom_beBytes_self (crcBlock bs)

/-- Settles O19: the changed byte moves the register apart, and no byte after it brings the two registers together. -/
theorem crcDetectsAnyByteChange : Obligations.CrcDetectsAnyByteChange := by
  intro before after b b' hne h
  rw [crcBlock, crcBlock, crcFrom_append, crcFrom_append] at h
  exact hne (crcStep_right_injective _ (crcFrom_left_injective after h))

/-! ### The commands (R101, R102, R104) -/

/-- Completing with a value in `CRC` leaves everything but `CRC` and `ERR`. -/
theorem completeCrc_spec (c : Half) (s : State) : DeliveredWith s (completeCrc c s) s.result :=
  ⟨rfl, rfl, CursorKept.refl s, ObufKept.refl s, HostSideKept.of_eq rfl rfl rfl rfl⟩

theorem exec_crcInit (vt : BitVec 3) (s : State) : exec (.crcInit vt) s = .next (completeCrc 0xFFFF s) := rfl

theorem exec_crcByte (vt : BitVec 3) (s : State) :
    exec (.crcByte vt) s = .next (completeCrc (crcStep s.crc s.ports.byte) s) := rfl

theorem exec_crcBlock (vt : BitVec 3) (s : State) :
    exec (.crcBlock vt) s =
      .next { completeCrc (crcBlock s.window) s with result := .crc (crcBlock s.window) } := rfl

/-- `CRC.BYTE` once per byte runs to the end and folds the sequence into `CRC`. -/
theorem streamBytes_crc (bs : Bytes) (s : State) :
    ∃ t, streamBytes bs s = .next t ∧ t.crc = crcFrom s.crc bs := by
  induction bs generalizing s with
  | nil => exact ⟨s, rfl, rfl⟩
  | cons b bs ih => exact ih (completeCrc (crcStep s.crc b) { s with ports := { s.ports with byte := b } })

/-- Settles O14: the command completes with the initial value. -/
theorem crcInitLoadsInitialValue : Obligations.CrcInitLoadsInitialValue := by
  intro vt s
  exact ⟨_, exec_crcInit vt s, rfl, completeCrc_spec _ s⟩

/-- Settles O16: the command completes with the byte step, which is eight rounds; the worked values are evaluated. -/
theorem crcByteRunsEightRounds : Obligations.CrcByteRunsEightRounds := by
  intro vt s
  refine ⟨_, exec_crcByte vt s, crcStep_eq _ _, fun hcrc hbyte => ?_, fun hcrc hbyte => ?_, completeCrc_spec _ s⟩
  · rw [completeCrc_crc, hcrc, hbyte]
    decide
  · rw [completeCrc_crc, hcrc, hbyte]
    decide

/-- Settles O17: the block command and the streamed bytes fold the same sequence from the same initial value. -/
theorem crcBlockIsInitThenBytes : Obligations.CrcBlockIsInitThenBytes := by
  intro vt s
  obtain ⟨v, hstream, hcrc⟩ := streamBytes_crc s.window (completeCrc 0xFFFF s)
  obtain ⟨hvalid, -, hkept⟩ := completeCrc_spec (crcBlock s.window) s
  refine ⟨_, _, v, exec_crcBlock vt s, exec_crcInit 0 s, hstream, ⟨hvalid, rfl, hkept⟩, hcrc.symm, fun hempty => ?_⟩
  show crcBlock s.window = 0xFFFF
  rw [hempty]
  rfl

end Sys2Proof.Machine
end

section
/-! PROOFS. The value transcoders (spec/41_value_transcoders.md). A `VAL` command ends as its encoder, its decoder or the
selector says (R112), so each statement is about what that function gives; an encoder's bytes are then read back by its
decoder. -/

namespace Sys2Proof

/-! ### Bytes and words -/

theorem toNat_append_byte {n : Nat} (x : BitVec n) (b : Byte) : (x ++ b).toNat = x.toNat * 256 + b.toNat := by
  rw [BitVec.toNat_append, ← Nat.shiftLeft_add_eq_or_of_lt b.isLt, Nat.shiftLeft_eq]

/-- Four bytes hold the number of the word they make, high byte first (R45). -/
theorem ubeNat_word (b3 b2 b1 b0 : Byte) : ubeNat [b3, b2, b1, b0] = (b3 ++ b2 ++ b1 ++ b0 : Word).toNat := by
  rw [toNat_append_byte, toNat_append_byte, toNat_append_byte]
  simp [ubeNat]

@[simp] theorem beBytes_byte (b : Byte) : beBytes 1 b.toNat = [b] := by simp [beBytes]

/-- The four bytes of a word, high byte first. -/
theorem exists_beBytes_word (w : Word) :
    ∃ b3 b2 b1 b0 : Byte, beBytes 4 w.toNat = [b3, b2, b1, b0] ∧ b3 ++ b2 ++ b1 ++ b0 = w := by
  refine ⟨_, _, _, _, rfl, BitVec.eq_of_toNat_eq ?_⟩
  rw [← ubeNat_word]
  exact (ubeNat_beBytes 4 w.toNat).trans (Nat.mod_eq_of_lt w.isLt)

/-- The two's-complement value of a number is that of the word it is (R13, R45). -/
theorem signed32_toNat (w : Word) : signed32 w.toNat = w.toInt := by
  rw [signed32, BitVec.toInt_eq_toNat_cond]
  split <;> split <;> omega

end Sys2Proof

namespace Sys2Proof.Machine

open Sys2Proof

/-! ### How the commands end -/

/-- `t` is `s` after a command whose result is these bytes, or this error. -/
def EncodedTo (s t : State) : Except ErrKind Bytes → Prop
  | .ok bs => EmittedWith s t bs
  | .error k => FaultedWith s t k none

theorem EncodedTo.emitted {s t : State} {r : Except ErrKind Bytes} {bs : Bytes} (h : EncodedTo s t r)
    (hr : r = .ok bs) : EmittedWith s t bs := by
  subst hr
  exact h

theorem EncodedTo.faulted {s t : State} {r : Except ErrKind Bytes} {k : ErrKind} (h : EncodedTo s t r)
    (hr : r = .error k) : FaultedWith s t k none := by
  subst hr
  exact h

/-- R112: `VAL.ENC.<t>` ends as the encoder says. -/
theorem exec_encoderOf_encodes (tag : Tag) (s : State) :
    ∃ t, exec (encoderOf tag) s = .next t ∧ EncodedTo s t (valEnc tag s.ports.value) := by
  rw [exec_encoderOf]
  cases valEnc tag s.ports.value with
  | ok bs => exact ⟨_, rfl, emit_spec bs s⟩
  | error k => exact ⟨_, rfl, takeFault_spec k none s⟩

/-- `t` is `s` after a command that read this value and this number of bytes at the offset, or met this error. -/
def DecodedTo (s t : State) : Except ErrKind (Value × Nat) → Prop
  | .ok (v, n) => ReadWith s t (.decoded v n) (s.offset + n)
  | .error k => FaultedWith s t k none

theorem DecodedTo.read {s t : State} {r : Except ErrKind (Value × Nat)} {v : Value} {n : Nat} (h : DecodedTo s t r)
    (hr : r = .ok (v, n)) : ReadWith s t (.decoded v n) (s.offset + n) := by
  subst hr
  exact h

theorem DecodedTo.faulted {s t : State} {r : Except ErrKind (Value × Nat)} {k : ErrKind} (h : DecodedTo s t r)
    (hr : r = .error k) : FaultedWith s t k none := by
  subst hr
  exact h

/-- `VAL.DEC.<t>` ends as the decoder says. -/
theorem exec_decoderOf_decodes (tag : Tag) (s : State) :
    ∃ t, exec (decoderOf tag) s = .next t ∧ DecodedTo s t (valDec tag s.window s.offset) := by
  rw [exec_decoderOf]
  cases valDec tag s.window s.offset with
  | ok x => exact finishRead_spec (.decoded x.1 x.2) s.offset x.2 s
  | error k => exact ⟨_, rfl, takeFault_spec k none s⟩

/-! ### The encoders (R114 to R121) -/

theorem encodeNumber_of_mem {n : Nat} {lo hi z : Int} (h : lo ≤ z ∧ z ≤ hi) :
    encodeNumber n lo hi (.N z) = .ok (beBytes n (BitVec.ofInt (8 * n) z).toNat) := by
  have hin : inRange lo hi z = .ok z := if_neg (by omega)
  simp [encodeNumber, numberOf, hin]

theorem encodeNumber_of_not_mem {n : Nat} {lo hi z : Int} (h : ¬(lo ≤ z ∧ z ≤ hi)) :
    encodeNumber n lo hi (.N z) = .error .valueOutOfRange := by
  have hout : inRange lo hi z = .error .valueOutOfRange := if_pos (by omega)
  simp [encodeNumber, numberOf, hout]

/-- A number that fits in a signed word is the two's-complement value of its 32 bits. -/
theorem toInt_ofInt_word {z : Int} (h : -2147483648 ≤ z ∧ z < 2147483648) : (BitVec.ofInt 32 z).toInt = z := by
  rw [BitVec.toInt_ofInt]
  exact Int.bmod_eq_of_le (by omega) (by omega)

/-- A number that fits in a bit vector is the unsigned value of its bits. -/
theorem toNat_ofInt_of_lt {n : Nat} {z : Int} (hlo : 0 ≤ z) (hhi : z < 2 ^ n) : (BitVec.ofInt n z).toNat = z.toNat := by
  rw [BitVec.toNat_ofInt, Int.emod_eq_of_lt hlo (by simpa using hhi)]

/-- The four bytes an encoder of `N` writes are the 32 bits of the number. -/
theorem EncodedTo.emitted_word {s t : State} {lo hi z : Int} (h : EncodedTo s t (encodeNumber 4 lo hi (.N z)))
    (hz : lo ≤ z ∧ z ≤ hi) :
    ∃ b3 b2 b1 b0 : Byte, (b3 ++ b2 ++ b1 ++ b0 : Word) = BitVec.ofInt 32 z ∧ EmittedWith s t [b3, b2, b1, b0] := by
  have hemit := h.emitted (encodeNumber_of_mem hz)
  obtain ⟨b3, b2, b1, b0, hbytes, hword⟩ := exists_beBytes_word (BitVec.ofInt 32 z)
  exact ⟨b3, b2, b1, b0, hword, hbytes ▸ hemit⟩

/-- Settles O20: in the range, the bytes of the number; outside it and for other values, the encoder's error. -/
theorem numberEncodersWriteOrFault : Obligations.NumberEncodersWriteOrFault := by
  intro s
  refine ⟨?_, ?_, ?_⟩
  · obtain ⟨t, hexec, h⟩ := exec_encoderOf_encodes .enum s
    refine ⟨t, hexec, ?_⟩
    generalize s.ports.value = v at h ⊢
    cases v with
    | N z =>
      dsimp only
      split
      case isTrue hz =>
        refine ⟨BitVec.ofInt 8 z, ?_, beBytes_byte _ ▸ h.emitted (encodeNumber_of_mem hz)⟩
        rw [toNat_ofInt_of_lt hz.1 (by omega), Int.toNat_of_nonneg hz.1]
      case isFalse hz => exact h.faulted (encodeNumber_of_not_mem hz)
    | _ => exact h
  · obtain ⟨t, hexec, h⟩ := exec_encoderOf_encodes .integer s
    refine ⟨t, hexec, ?_⟩
    generalize s.ports.value = v at h ⊢
    cases v with
    | N z =>
      dsimp only
      split
      case isTrue hz =>
        obtain ⟨b3, b2, b1, b0, hword, hemit⟩ := h.emitted_word hz
        exact ⟨b3, b2, b1, b0, by rw [hword, toInt_ofInt_word (by omega)], hemit⟩
      case isFalse hz => exact h.faulted (encodeNumber_of_not_mem hz)
    | _ => exact h
  · obtain ⟨t, hexec, h⟩ := exec_encoderOf_encodes .exception s
    refine ⟨t, hexec, ?_⟩
    generalize s.ports.value = v at h ⊢
    cases v with
    | N z =>
      dsimp only
      split
      case isTrue hz =>
        obtain ⟨b3, b2, b1, b0, hword, hemit⟩ := h.emitted_word (by omega)
        exact ⟨b3, b2, b1, b0, by rw [hword, toNat_ofInt_of_lt hz.1 hz.2, Int.toNat_of_nonneg hz.1], hemit⟩
      case isFalse hz => exact h.faulted (encodeNumber_of_not_mem (by omega))
    | _ => exact h

/-- Settles O21: the encoder gives the byte of the boolean or the bytes of the word, and its error for other values. -/
theorem booleanAndFloatEncodersWriteOrFault : Obligations.BooleanAndFloatEncodersWriteOrFault := by
  intro s
  constructor
  · obtain ⟨t, hexec, h⟩ := exec_encoderOf_encodes .boolean s
    refine ⟨t, hexec, ?_⟩
    generalize s.ports.value = v at h ⊢
    cases v <;> exact h
  · obtain ⟨t, hexec, h⟩ := exec_encoderOf_encodes .float s
    refine ⟨t, hexec, ?_⟩
    generalize s.ports.value = v at h ⊢
    cases v with
    | F w =>
      obtain ⟨b3, b2, b1, b0, hbytes, hword⟩ := exists_beBytes_word w
      exact ⟨b3, b2, b1, b0, hword, h.emitted (congrArg Except.ok hbytes)⟩
    | _ => exact h

/-- Every length up to the largest has a length word (R160). -/
theorem exists_vlpEnc_of_le {len : Nat} (h : len ≤ maxLen) : ∃ p, vlpEnc len = .ok p := by
  unfold vlpEnc
  rw [if_neg (Nat.not_lt.mpr h)]
  split_ifs <;> exact ⟨_, rfl⟩

theorem vlpEnc_of_lt {len : Nat} (h : maxLen < len) : vlpEnc len = .error .valueOutOfRange := if_pos h

/-- What a run encoder writes: the length word and the bytes, or `ValueOutOfRange` (R130). -/
theorem EncodedTo.run_or_fault {s t : State} {bs : Bytes} (h : EncodedTo s t (prefixed bs)) :
    if bs.length ≤ 0x3FFFFFFF then ∃ p, vlpEnc bs.length = .ok p ∧ EmittedWith s t (p ++ bs)
    else FaultedWith s t .valueOutOfRange none := by
  split
  case isTrue hle =>
    obtain ⟨p, hp⟩ := exists_vlpEnc_of_le hle
    exact ⟨p, hp, h.emitted (by simp [prefixed, hp])⟩
  case isFalse hlt => exact h.faulted (by simp [prefixed, vlpEnc_of_lt (Nat.not_le.mp hlt)])

/-- Settles O22: each encoder puts the length word before the bytes of its own kind of value, and faults on others. -/
theorem runEncodersWriteOrFault : Obligations.RunEncodersWriteOrFault := by
  intro s
  refine ⟨?_, ?_, ?_⟩
  · obtain ⟨t, hexec, h⟩ := exec_encoderOf_encodes .buffer s
    refine ⟨t, hexec, ?_⟩
    generalize s.ports.value = v at h ⊢
    cases v with
    | Y bs => exact EncodedTo.run_or_fault h
    | _ => exact h
  · obtain ⟨t, hexec, h⟩ := exec_encoderOf_encodes .string s
    refine ⟨t, hexec, ?_⟩
    generalize s.ports.value = v at h ⊢
    cases v with
    | S bs => exact EncodedTo.run_or_fault h
    | _ => exact h
  · obtain ⟨t, hexec, h⟩ := exec_encoderOf_encodes .json s
    refine ⟨t, hexec, ?_⟩
    generalize s.ports.value = v at h ⊢
    cases v with
    | J bs => exact EncodedTo.run_or_fault h
    | _ => exact h

/-! ### Reads at an offset -/

/-- The bytes that stand at an offset are read as the number they hold. -/
theorem memRead_of_drop {w bs rest : Bytes} {pos : Nat} (h : w.drop pos = bs ++ rest) (hpos : 0 < bs.length) :
    memRead w pos bs.length = .ok (ubeNat bs) := by
  have hlen := congrArg List.length h
  rw [List.length_drop, List.length_append] at hlen
  rw [memRead_ok (by omega), h, List.take_left]

/-- Where too few bytes stand at an offset the read fails. -/
theorem memRead_of_short {w : Bytes} {pos n : Nat} (h : (w.drop pos).length < n) :
    memRead w pos n = .error .malformedFrame := by
  rw [List.length_drop] at h
  exact memRead_eq_error.mpr ⟨by omega, rfl⟩

theorem memRead_one_of_drop {w rest : Bytes} {pos : Nat} {b : Byte} (h : w.drop pos = b :: rest) :
    memRead w pos 1 = .ok b.toNat := by
  have hread := memRead_of_drop (bs := [b]) h Nat.one_pos
  simpa [ubeNat] using hread

theorem memRead_one_of_drop_nil {w : Bytes} {pos : Nat} (h : w.drop pos = []) :
    memRead w pos 1 = .error .malformedFrame := memRead_of_short (by simp [h])

theorem memRead_word_of_drop {w rest : Bytes} {pos : Nat} {b3 b2 b1 b0 : Byte}
    (h : w.drop pos = b3 :: b2 :: b1 :: b0 :: rest) : memRead w pos 4 = .ok (b3 ++ b2 ++ b1 ++ b0 : Word).toNat := by
  rw [← ubeNat_word]
  exact memRead_of_drop (bs := [b3, b2, b1, b0]) h (Nat.succ_pos 3)

/-- A sequence that does not begin with four bytes is shorter. -/
theorem length_lt_four {l : Bytes} (h : ∀ b3 b2 b1 b0 rest, l = b3 :: b2 :: b1 :: b0 :: rest → False) :
    l.length < 4 := by
  match l, h with
  | [], _ | [_], _ | [_, _], _ | [_, _, _], _ => simp
  | b3 :: b2 :: b1 :: b0 :: rest, h => exact (h b3 b2 b1 b0 rest rfl).elim

/-! ### The decoders (R122 to R129) -/

/-- R122 by the byte read: 0 and 1 are the booleans. -/
theorem decBoolean_of_memRead {w : Bytes} {pos : Nat} {b : Byte} (h : memRead w pos 1 = .ok b.toNat) :
    decBoolean w pos =
      if b = 0x00 then .ok (.B false, 1) else if b = 0x01 then .ok (.B true, 1) else .error .valueOutOfRange := by
  rw [decBoolean, h]
  split_ifs with hzero hone
  · subst hzero
    rfl
  · subst hone
    rfl
  · exact if_pos (by bv_omega)

/-- Settles O23: the byte at the offset, or `MalformedFrame` where there is none. -/
theorem byteDecodersReadOrFault : Obligations.ByteDecodersReadOrFault := by
  intro s
  constructor
  · obtain ⟨t, hexec, h⟩ := exec_decoderOf_decodes .boolean s
    refine ⟨t, hexec, ?_⟩
    split
    case h_1 hnil => exact h.faulted (by simp [valDec, decBoolean, memRead_one_of_drop_nil hnil])
    case h_2 b rest hcons =>
      have hdec := decBoolean_of_memRead (memRead_one_of_drop hcons)
      split_ifs with hzero hone
      · exact h.read (hdec.trans (if_pos hzero))
      · exact h.read (hdec.trans ((if_neg hzero).trans (if_pos hone)))
      · exact h.faulted (hdec.trans ((if_neg hzero).trans (if_neg hone)))
  · obtain ⟨t, hexec, h⟩ := exec_decoderOf_decodes .enum s
    refine ⟨t, hexec, ?_⟩
    split
    case h_1 hnil => exact h.faulted (Except.map_eq_error_iff.mpr (memRead_one_of_drop_nil hnil))
    case h_2 b rest hcons => exact h.read (Except.map_eq_ok_iff.mpr ⟨_, memRead_one_of_drop hcons, rfl⟩)

/-- What a four-byte decoder reads, where four bytes stand at the offset and where they do not. -/
theorem exec_wordDecoder {tag : Tag} {f : Nat → Value}
    (hdec : ∀ w pos, valDec tag w pos = (memRead w pos 4).map fun v => (f v, 4)) (s : State) :
    ∃ t, exec (decoderOf tag) s = .next t ∧
      (∀ b3 b2 b1 b0 rest, s.window.drop s.offset = b3 :: b2 :: b1 :: b0 :: rest →
        ReadWith s t (.decoded (f (b3 ++ b2 ++ b1 ++ b0 : Word).toNat) 4) (s.offset + 4)) ∧
      ((∀ b3 b2 b1 b0 rest, s.window.drop s.offset = b3 :: b2 :: b1 :: b0 :: rest → False) →
        FaultedWith s t .malformedFrame none) := by
  obtain ⟨t, hexec, h⟩ := exec_decoderOf_decodes tag s
  rw [hdec] at h
  refine ⟨t, hexec, fun b3 b2 b1 b0 rest hdrop => ?_, fun hshort => ?_⟩
  · exact h.read (Except.map_eq_ok_iff.mpr ⟨_, memRead_word_of_drop hdrop, rfl⟩)
  · exact h.faulted (Except.map_eq_error_iff.mpr (memRead_of_short (length_lt_four hshort)))

theorem setBits_pairwise (v : Nat) : (setBits v).Pairwise (· < ·) := List.pairwise_lt_range.filter _

theorem mem_setBits_toNat {w : Word} {i : Nat} : i ∈ setBits w.toNat ↔ w.getLsbD i = true := by
  rw [setBits, List.mem_filter, List.mem_range]
  exact and_iff_right_of_imp BitVec.lt_of_getLsbD

/-- Settles O24: the three decoders differ only in what they make of the word. -/
theorem wordDecodersReadOrFault : Obligations.WordDecodersReadOrFault := by
  intro s
  refine ⟨?_, ?_, ?_⟩
  · obtain ⟨t, hexec, hread, hfault⟩ := exec_wordDecoder (tag := .integer) (fun _ _ => rfl) s
    refine ⟨t, hexec, ?_⟩
    split
    case h_1 b3 b2 b1 b0 rest hdrop => exact signed32_toNat _ ▸ hread b3 b2 b1 b0 rest hdrop
    case h_2 hshort => exact hfault hshort
  · obtain ⟨t, hexec, hread, hfault⟩ := exec_wordDecoder (tag := .float) (fun _ _ => rfl) s
    refine ⟨t, hexec, ?_⟩
    split
    case h_1 b3 b2 b1 b0 rest hdrop => simpa using hread b3 b2 b1 b0 rest hdrop
    case h_2 hshort => exact hfault hshort
  · obtain ⟨t, hexec, hread, hfault⟩ := exec_wordDecoder (tag := .exception) (fun _ _ => rfl) s
    refine ⟨t, hexec, ?_⟩
    split
    case h_1 b3 b2 b1 b0 rest hdrop =>
      exact ⟨_, setBits_pairwise _, fun _ => mem_setBits_toNat, hread b3 b2 b1 b0 rest hdrop⟩
    case h_2 hshort => exact hfault hshort

/-- Where `VLP.DEC` fails there is no run to read (R127). -/
theorem decodeRun_of_vlpDec_error {w : Bytes} {pos : Nat} {k : ErrKind} (h : vlpDec w pos = .error k) :
    decodeRun w pos = .error k := by simp [decodeRun, h]

/-- A run in the window is read whole (R127). -/
theorem decodeRun_of_le {w : Bytes} {pos len k : Nat} (h : vlpDec w pos = .ok (len, k)) (hle : pos + k + len ≤ w.length) :
    decodeRun w pos = .ok ((w.drop (pos + k)).take len, k + len) :=
  decodeRun_eq_ok.mpr ⟨len, k, h, memReadBytes_eq_ok.mpr ⟨hle, rfl⟩, rfl⟩

/-- A run past the window end is not read (R46). -/
theorem decodeRun_of_lt {w : Bytes} {pos len k : Nat} (h : vlpDec w pos = .ok (len, k)) (hlt : w.length < pos + k + len) :
    decodeRun w pos = .error .malformedFrame := by
  simp [decodeRun, h, memReadBytes_eq_error.mpr ⟨hlt, rfl⟩]

section
variable {w bs : Bytes} {pos n : Nat} {k : ErrKind}

theorem decBuffer_of_run (h : decodeRun w pos = .ok (bs, n)) : decBuffer w pos = .ok (.Y bs, n) :=
  Except.map_eq_ok_iff.mpr ⟨_, h, rfl⟩

theorem decString_of_run (h : decodeRun w pos = .ok (bs, n)) : decString w pos = .ok (.S bs, n) :=
  Except.map_eq_ok_iff.mpr ⟨_, h, rfl⟩

/-- R129: `IsValidJson` decides. -/
theorem decJson_of_run (h : decodeRun w pos = .ok (bs, n)) :
    decJson w pos = if Config.isValidJson bs = true then .ok (.J bs, n) else .error .jsonParseError := by
  simp [decJson, h]

/-- The three run decoders fail as the run does. -/
theorem runDecoders_of_error (h : decodeRun w pos = .error k) :
    decBuffer w pos = .error k ∧ decString w pos = .error k ∧ decJson w pos = .error k :=
  ⟨Except.map_eq_error_iff.mpr h, Except.map_eq_error_iff.mpr h, by simp [decJson, h]⟩

end

/-- Settles O25: the length word, the run in the window, and for json the predicate decide in this order. -/
theorem runDecodersReadOrFault : Obligations.RunDecodersReadOrFault := by
  intro s
  obtain ⟨tb, hexecb, hb⟩ := exec_decoderOf_decodes .buffer s
  obtain ⟨ts, hexecs, hs⟩ := exec_decoderOf_decodes .string s
  obtain ⟨tj, hexecj, hj⟩ := exec_decoderOf_decodes .json s
  refine ⟨tb, ts, tj, hexecb, hexecs, hexecj, ?_⟩
  split
  case h_1 k hprefix =>
    obtain ⟨hbuffer, hstring, hjson⟩ := runDecoders_of_error (decodeRun_of_vlpDec_error hprefix)
    exact ⟨vlpDec_error_kind hprefix, hb.faulted hbuffer, hs.faulted hstring, hj.faulted hjson⟩
  case h_2 len k hprefix =>
    split
    case isTrue hle =>
      have hrun := decodeRun_of_le hprefix hle
      refine ⟨hb.read (decBuffer_of_run hrun), hs.read (decString_of_run hrun), ?_⟩
      have hjson := decJson_of_run hrun
      split
      case isTrue hvalid => exact hj.read (hjson.trans (if_pos hvalid))
      case isFalse hinvalid => exact hj.faulted (hjson.trans (if_neg hinvalid))
    case isFalse hlt =>
      obtain ⟨hbuffer, hstring, hjson⟩ := runDecoders_of_error (decodeRun_of_lt hprefix (Nat.not_le.mp hlt))
      exact ⟨hb.faulted hbuffer, hs.faulted hstring, hj.faulted hjson⟩

/-! ### Reading back what was written (R131) -/

/-- The bytes of a number that fits in them are read back as the number. -/
theorem memRead_beBytes_append {n v : Nat} (rest : Bytes) (hpos : 0 < n) (hv : v < 256 ^ n) :
    memRead (beBytes n v ++ rest) 0 n = .ok v := by
  have hread := memRead_of_drop (w := beBytes n v ++ rest) (pos := 0) rfl (by simpa using hpos)
  rwa [beBytes_length, ubeNat_beBytes, Nat.mod_eq_of_lt hv] at hread

/-- What `VLP.ENC` gives: the biased length in the bytes of a class, and the first byte says which class (R160, R162). -/
theorem vlpEnc_eq_ok {len : Nat} {p : Bytes} (h : vlpEnc len = .ok p) :
    ∃ n, p = beBytes (n + 1) (len + vlpBias (n + 1)) ∧ len + vlpBias (n + 1) < 256 ^ (n + 1) ∧
      vlpSize ((len + vlpBias (n + 1)) / 256 ^ n) = n + 1 := by
  unfold vlpEnc at h
  split_ifs at h with hmax h1 h2 h3
  all_goals obtain rfl := Except.ok.inj h
  · exact ⟨0, rfl, by simp [vlpBias]; omega, by simp [vlpBias, vlpSize, h1]⟩
  · refine ⟨1, rfl, by simp [vlpBias]; omega, ?_⟩
    rw [vlpSize, vlpBias, if_neg (by omega), if_pos (by omega)]
  · refine ⟨2, rfl, by simp [vlpBias]; omega, ?_⟩
    rw [vlpSize, vlpBias, if_neg (by omega), if_neg (by omega), if_pos (by omega)]
  · have hle : len ≤ 0x3FFFFFFF := Nat.not_lt.mp hmax
    refine ⟨3, rfl, by simp [vlpBias]; omega, ?_⟩
    rw [vlpSize, vlpBias, if_neg (by omega), if_neg (by omega), if_neg (by omega)]

/-- `VLP.DEC` reads a length word of `VLP.ENC` back, whatever follows it. -/
theorem vlpDec_vlpEnc {len : Nat} {p : Bytes} (rest : Bytes) (h : vlpEnc len = .ok p) :
    vlpDec (p ++ rest) 0 = .ok (len, p.length) := by
  obtain ⟨n, rfl, hlt, hsize⟩ := vlpEnc_eq_ok h
  have hall := memRead_beBytes_append rest n.succ_pos hlt
  generalize hv : len + vlpBias (n + 1) = v at *
  have hbyte : v / 256 ^ n < 256 := Nat.div_lt_of_lt_mul (by rwa [← pow_succ])
  have hfirst : memRead (beBytes (n + 1) v ++ rest) 0 1 = .ok (v / 256 ^ n) := by
    have hhead := memRead_one_of_drop (w := beBytes (n + 1) v ++ rest) (pos := 0) rfl
    rwa [BitVec.toNat_ofNat, Nat.mod_eq_of_lt hbyte] at hhead
  exact vlpDec_eq_ok.mpr ⟨_, hfirst, by rw [hsize, beBytes_length], v, by rw [hsize, hall], by rw [hsize]; omega⟩

/-- What `Prefixed` gives. -/
theorem prefixed_eq_ok {bs out : Bytes} (h : prefixed bs = .ok out) :
    ∃ p, vlpEnc bs.length = .ok p ∧ out = p ++ bs := by
  unfold prefixed at h
  cases hp : vlpEnc bs.length with
  | ok p => rw [hp] at h; exact ⟨p, rfl, (Except.ok.inj h).symm⟩
  | error k => rw [hp] at h; cases h

/-- A run is read back, whatever follows it. -/
theorem decodeRun_prefixed {bs out : Bytes} (rest : Bytes) (h : prefixed bs = .ok out) :
    decodeRun (out ++ rest) 0 = .ok (bs, out.length) := by
  obtain ⟨p, hp, rfl⟩ := prefixed_eq_ok h
  rw [List.append_assoc, decodeRun_of_le (vlpDec_vlpEnc (bs ++ rest) hp) (by simp)]
  simp

/-- What an encoder of `N` accepts and gives. -/
theorem encodeNumber_eq_ok {n : Nat} {lo hi z : Int} {bs : Bytes} (h : encodeNumber n lo hi (.N z) = .ok bs) :
    (lo ≤ z ∧ z ≤ hi) ∧ bs = beBytes n (BitVec.ofInt (8 * n) z).toNat := by
  by_cases hz : lo ≤ z ∧ z ≤ hi
  · rw [encodeNumber_of_mem hz] at h
    exact ⟨hz, (Except.ok.inj h).symm⟩
  · rw [encodeNumber_of_not_mem hz] at h
    cases h

/-- The bits of a number are read back, whatever follows them. -/
theorem memRead_ofInt_append {n : Nat} (z : Int) (rest : Bytes) (hpos : 0 < n) :
    memRead (beBytes n (BitVec.ofInt (8 * n) z).toNat ++ rest) 0 n = .ok (BitVec.ofInt (8 * n) z).toNat :=
  memRead_beBytes_append rest hpos (by simpa [pow_mul] using (BitVec.ofInt (8 * n) z).isLt)

section
variable {bs : Bytes} (rest : Bytes)

theorem decBoolean_encBoolean {b : Bool} (h : encBoolean (.B b) = .ok bs) :
    decBoolean (bs ++ rest) 0 = .ok (.B b, bs.length) := by
  obtain rfl := Except.ok.inj h
  rw [decBoolean_of_memRead (memRead_one_of_drop rfl)]
  cases b <;> rfl

theorem decEnum_encEnum {z : Int} (h : encEnum (.N z) = .ok bs) : decEnum (bs ++ rest) 0 = .ok (.N z, bs.length) := by
  obtain ⟨⟨hlo, hhi⟩, rfl⟩ := encodeNumber_eq_ok h
  rw [decEnum, memRead_ofInt_append z rest Nat.one_pos, toNat_ofInt_of_lt hlo (by omega), beBytes_length]
  simp [Except.map, hlo]

theorem decInteger_encInteger {z : Int} (h : encInteger (.N z) = .ok bs) :
    decInteger (bs ++ rest) 0 = .ok (.N z, bs.length) := by
  obtain ⟨⟨hlo, hhi⟩, rfl⟩ := encodeNumber_eq_ok h
  simp only [minInteger, maxInteger] at hlo hhi
  have hz : signed32 (BitVec.ofInt 32 z).toNat = z := by rw [signed32_toNat, toInt_ofInt_word (by omega)]
  rw [decInteger, memRead_ofInt_append z rest (by decide), beBytes_length]
  exact congrArg (fun v => Except.ok (Value.N v, 4)) hz

theorem decFloat_encFloat {w : Word} (h : encFloat (.F w) = .ok bs) :
    decFloat (bs ++ rest) 0 = .ok (.F w, bs.length) := by
  obtain rfl := Except.ok.inj h
  rw [decFloat, memRead_beBytes_append rest (by decide) w.isLt, beBytes_length]
  simp [Except.map]

theorem decException_encException {z : Int} (h : encException (.N z) = .ok bs) :
    decException (bs ++ rest) 0 = .ok (.X (setBits z.toNat), bs.length) := by
  obtain ⟨⟨hlo, hhi⟩, rfl⟩ := encodeNumber_eq_ok h
  rw [decException, memRead_ofInt_append z rest (by decide), toNat_ofInt_of_lt hlo (by omega), beBytes_length]
  rfl

end

/-- Settles O26: the commands end as their transcoders say, and each decoder undoes its encoder. -/
theorem valuesRoundTrip : Obligations.ValuesRoundTrip := by
  refine ⟨fun tag s => ⟨exec_encoderOf_encodes tag s, exec_decoderOf_decodes tag s⟩, fun tag v bs rest h => ?_⟩
  cases tag with
  | boolean =>
    cases v with
    | B b => exact decBoolean_encBoolean rest h
    | _ => cases h
  | enum =>
    cases v with
    | N z => exact decEnum_encEnum rest h
    | _ => cases h
  | integer =>
    cases v with
    | N z => exact decInteger_encInteger rest h
    | _ => cases h
  | float =>
    cases v with
    | F w => exact decFloat_encFloat rest h
    | _ => cases h
  | exception =>
    cases v with
    | N z => exact decException_encException rest h
    | _ => cases h
  | buffer =>
    cases v with
    | Y run => exact decBuffer_of_run (decodeRun_prefixed rest h)
    | _ => cases h
  | string =>
    cases v with
    | S run => exact decString_of_run (decodeRun_prefixed rest h)
    | _ => cases h
  | json =>
    cases v with
    | J run => exact decJson_of_run (decodeRun_prefixed rest h)
    | _ => cases h

/-! ### The selector (R113) -/

theorem toNat_fidDataTypeBits (fid : Half) : (fidDataTypeBits fid).toNat = fid.toNat / 8192 := by
  rw [fidDataTypeBits, BitVec.extractLsb'_toNat, Nat.shiftRight_eq_div_pow]
  omega

theorem toNat_fidFunctionTypeBits (fid : Half) : (fidFunctionTypeBits fid).toNat = fid.toNat / 2048 % 4 := by
  rw [fidFunctionTypeBits, BitVec.extractLsb'_toNat, Nat.shiftRight_eq_div_pow]

/-- The code 3 is that of an event (R73). -/
theorem functionTypeOf_eq_event_iff {code : BitVec 2} : functionTypeOf code = .event ↔ code.toNat = 3 := by
  revert code
  decide

theorem fidDec_of_ne {fid : Half} (h : fidDataTypeBits fid ≠ 0) : fidDec fid = .ok (fieldsOf fid) := if_neg h

/-- The data type bits 000 select nothing. -/
theorem valSel_of_zero {p : Params} {fid : Half} (h : fidDataTypeBits fid = 0) :
    valSel p fid = .error .unknownDataType := by simp [valSel, fidDec, h]

/-- The transcoder of the type of the id, and the event rule of strings. -/
theorem valSel_of_dataType {p : Params} {fid : Half} {ty : DataType} (h : fidDataTypeBits fid ≠ 0)
    (hty : dataTypeOf p (fidDataTypeBits fid) = some ty) :
    valSel p fid = .ok (if ty = .string ∧ fid.toNat / 2048 % 4 = 3 then .json else tagOf ty) := by
  rw [valSel, fidDec_of_ne h]
  simp [fieldsOf, hty, functionTypeOf_eq_event_iff, toNat_fidFunctionTypeBits]

/-- Under a legal `DT_CODE` every code but 0 is that of a type: 0, seven other codes and one more would be nine values of
three bits (R9). -/
theorem exists_dataTypeOf {p : Params} (hp : paramsWf p = true) {code : BitVec 3} (hc : code ≠ 0) :
    ∃ ty, dataTypeOf p code = some ty ∧ dataTypeCode p ty = code := by
  cases hty : dataTypeOf p code with
  | some ty => exact ⟨ty, rfl, by simpa using List.find?_some hty⟩
  | none =>
    exfalso
    simp only [paramsWf, Bool.and_eq_true, decide_eq_true_eq, List.all_eq_true, bne_iff_ne] at hp
    obtain ⟨hnodup, hnonzero⟩ := hp
    have hnone : ∀ ty ∈ dataTypes, dataTypeCode p ty ≠ code := by simpa [dataTypeOf] using hty
    have hnine : (code :: 0 :: dataTypes.map (dataTypeCode p)).Nodup := by
      refine List.nodup_cons.mpr ⟨?_, List.nodup_cons.mpr ⟨by simpa using hnonzero, hnodup⟩⟩
      simp only [List.mem_cons, List.mem_map, not_or]
      exact ⟨hc, fun ⟨ty, hmem, heq⟩ => hnone ty hmem heq⟩
    exact absurd (show 9 ≤ 8 from hnine.length_le_card) (by decide)

/-- Settles O27: the data type bits are 0, or the code of a type. -/
theorem selectorPicksTranscoder : Obligations.SelectorPicksTranscoder := by
  intro vt s hp
  have hexec : exec (.valSel vt) s = finishDeliver ((valSel s.params s.ports.fid).map .selected) s := rfl
  have hbits := toNat_fidDataTypeBits s.ports.fid
  rw [hexec, ← hbits]
  by_cases hzero : fidDataTypeBits s.ports.fid = 0
  · have hnum : (fidDataTypeBits s.ports.fid).toNat = 0 := congrArg BitVec.toNat hzero
    rw [valSel_of_zero hzero]
    refine ⟨_, rfl, ?_⟩
    rw [if_pos hnum]
    exact takeFault_spec .unknownDataType none s
  · obtain ⟨ty, hty, hcode⟩ := exists_dataTypeOf hp hzero
    have hnum : (fidDataTypeBits s.ports.fid).toNat ≠ 0 := fun h => hzero (BitVec.eq_of_toNat_eq h)
    rw [valSel_of_dataType hzero hty]
    refine ⟨_, rfl, ?_⟩
    rw [if_neg hnum]
    exact ⟨ty, by rw [hcode], deliver_spec _ s⟩

end Sys2Proof.Machine
end

section
/-! PROOFS. The bit-field codecs (spec/42_bitfield_codecs.md) and the rows of their formats. A function id and an operation code
are their fields put side by side; a command or a row of either format ends as its codec says, so each statement is about
what the codec makes of the fields. -/

namespace Sys2Proof.Machine

open Sys2Proof

/-! ### Fields as numbers -/

/-- Two fields side by side are a number in two digits. -/
theorem toNat_append_eq_add {m n : Nat} (x : BitVec m) (y : BitVec n) : (x ++ y).toNat = x.toNat * 2 ^ n + y.toNat := by
  rw [BitVec.toNat_append, ← Nat.shiftLeft_add_eq_or_of_lt y.isLt, Nat.shiftLeft_eq]

/-- A bit, read as a field of one bit. -/
theorem extractLsb'_one_eq_one_iff {w : Nat} {x : BitVec w} {i : Nat} :
    x.extractLsb' i 1 = 1#1 ↔ x.toNat / 2 ^ i % 2 = 1 := by
  rw [← BitVec.toNat_inj, BitVec.extractLsb'_toNat, Nat.shiftRight_eq_div_pow]
  rfl

/-- A bit, read as a truth value. -/
theorem getLsbD_eq_true_iff {w : Nat} {x : BitVec w} {i : Nat} : x.getLsbD i = true ↔ x.toNat / 2 ^ i % 2 = 1 := by
  simp [BitVec.getLsbD, Nat.testBit_eq_decide_div_mod_eq]

/-! ### Function ids (R140 to R143) -/

theorem toNat_fidEnc (d : BitVec 3) (f : BitVec 2) (r : BitVec 11) :
    (fidEnc d f r).toNat = d.toNat * 8192 + f.toNat * 2048 + r.toNat := by
  rw [fidEnc, toNat_append_eq_add, toNat_append_eq_add]
  omega

/-- A packed id has exactly the three fields it was packed from: packing is the layout of the encoder's words (R71). -/
theorem fidEnc_eq_iff {d : BitVec 3} {f : BitVec 2} {r : BitVec 11} {fid : Half} :
    fidEnc d f r = fid ↔ fidDataTypeBits fid = d ∧ fidFunctionTypeBits fid = f ∧ fidResourceIdBits fid = r :=
  fidOf_eq_iff

theorem toNat_fidResourceIdBits (fid : Half) : (fidResourceIdBits fid).toNat = fid.toNat % 2048 := by
  rw [fidResourceIdBits, BitVec.extractLsb'_toNat, Nat.shiftRight_zero]

/-- The data type bits are 000 below 0x2000. -/
theorem fidDataTypeBits_eq_zero_iff {fid : Half} : fidDataTypeBits fid = 0 ↔ fid.toNat < 8192 := by
  rw [← BitVec.toNat_inj, toNat_fidDataTypeBits]
  show fid.toNat / 8192 = 0 ↔ _
  omega

/-- The data type bits are in the first byte of an id. -/
theorem fidDataTypeBits_append_eq_zero_iff {hi lo : Byte} : fidDataTypeBits (hi ++ lo) = 0 ↔ hi.toNat / 32 = 0 := by
  have hlo := lo.isLt
  rw [fidDataTypeBits_eq_zero_iff, toNat_append_byte]
  omega

theorem fidDec_of_zero {fid : Half} (h : fidDataTypeBits fid = 0) : fidDec fid = .error .unknownDataType := if_pos h

/-- R142, in the order of the spec: the combine range is tested first, then the static one. -/
theorem classify_eq (t : FunctionType) (r : BitVec 11) :
    classify t r =
      if t = .custom then .unclassified
      else if 0x500 ≤ r.toNat ∧ r.toNat ≤ 0x6FF then .combine
      else if 0x700 ≤ r.toNat then .static
      else .common := by
  unfold classify combineFirst staticFirst
  grind

/-- The code 1 is that of a custom function point (R73). -/
theorem functionTypeOf_eq_custom_iff {code : BitVec 2} : functionTypeOf code = .custom ↔ code.toNat = 1 := by
  revert code
  decide

/-- R73, read from the number of the code. -/
theorem functionTypeOf_table (code : BitVec 2) :
    match code.toNat with
    | 0 => functionTypeOf code = .reserve
    | 1 => functionTypeOf code = .custom
    | 2 => functionTypeOf code = .property
    | _ => functionTypeOf code = .event := by
  have hcode : code = 0 ∨ code = 1 ∨ code = 2 ∨ code = 3 := by
    revert code
    decide
  obtain rfl | rfl | rfl | rfl := hcode <;> rfl

/-- Settles O28: packing makes no check, and the packed id is a number in three digits. -/
theorem fidEncPacksFields : Obligations.FidEncPacksFields := by
  intro vt s
  exact ⟨_, _, rfl, deliver_spec _ s, toNat_fidEnc _ _ _⟩

/-- How the function-point codec ends on an id (R141). -/
theorem readFields_spec (fid : Half) (s : State) :
    ∃ t, readFields fid s = .next t ∧
      if fidDataTypeBits fid = 0 then FaultedWith s t .unknownDataType none
      else DeliveredWith s t (.fields (fieldsOf fid)) := by
  unfold readFields
  by_cases h : fidDataTypeBits fid = 0
  · simp only [fidDec_of_zero h, if_pos h]
    exact ⟨_, rfl, takeFault_spec .unknownDataType none s⟩
  · simp only [fidDec_of_ne h, if_neg h]
    exact ⟨_, rfl, deliver_spec (.fields (fieldsOf fid)) s⟩

/-- The class of an id by its number (R142). -/
theorem fieldsOf_resourceType (fid : Half) :
    (fieldsOf fid).resourceType =
      if fid.toNat / 2048 % 4 = 1 then .unclassified
      else if 0x500 ≤ fid.toNat % 2048 ∧ fid.toNat % 2048 ≤ 0x6FF then .combine
      else if 0x700 ≤ fid.toNat % 2048 then .static
      else .common := by
  simp only [fieldsOf, classify_eq, functionTypeOf_eq_custom_iff, toNat_fidFunctionTypeBits, toNat_fidResourceIdBits]

/-- Settles O29: `FID.DEC` reads its operand as the codec does, and each field is a digit of the id. -/
theorem fidDecSplitsAndClassifies : Obligations.FidDecSplitsAndClassifies := by
  intro vt s
  obtain ⟨t, hexec, hend⟩ := readFields_spec s.ports.fid s
  refine ⟨t, hexec, ?_⟩
  simp only [fidDataTypeBits_eq_zero_iff] at hend
  split
  case isTrue hzero => rwa [if_pos hzero] at hend
  case isFalse hzero =>
    rw [if_neg hzero] at hend
    refine ⟨fieldsOf s.ports.fid, hend, toNat_fidDataTypeBits _, toNat_fidResourceIdBits _, ?_, fieldsOf_resourceType _⟩
    rw [← toNat_fidFunctionTypeBits]
    exact functionTypeOf_table (fidFunctionTypeBits s.ports.fid)

/-- Settles O30: the three fields tile the id, so they are read back from it and give it back. -/
theorem functionIdRoundTrips : Obligations.FunctionIdRoundTrips := by
  refine ⟨fun d f r hd => ?_, fun fid => fidEnc_eq_iff.mpr ⟨rfl, rfl, rfl⟩⟩
  obtain ⟨hdata, hfun, hres⟩ := fidEnc_eq_iff.mp (rfl : fidEnc d f r = fidEnc d f r)
  exact ⟨_, fidDec_of_ne (by rwa [hdata]), hdata, congrArg functionTypeOf hfun, hres⟩

/-! ### Operation codes (R145 to R150) -/

/-- The method code of a method under a target: the two encode tables (R146, R147). -/
def methodCode (p : Params) : Target → Method → BitVec 5
  | .resource => resMethodCode
  | .system => sysMethodCode p

/-- The method of a method code under a target: the two decode tables (R149). -/
def methodName : Target → BitVec 5 → Method
  | .resource => resMethodName
  | .system => sysMethodName

theorem opcEnc_eq (p : Params) (d : OpDesc) :
    opcEnc p d = operationBit d.operation ++ deviceBit d.type ++ targetBit d.target ++ methodCode p d.target d.method := by
  obtain ⟨method, target, type, operation⟩ := d
  cases target <;> rfl

theorem opcDec_eq (c : Byte) :
    opcDec c =
      { method := methodName (targetOf (c.extractLsb' 5 1)) (c.extractLsb' 0 5)
        target := targetOf (c.extractLsb' 5 1)
        type := deviceOf (c.extractLsb' 6 1)
        operation := operationOf (c.extractLsb' 7 1) } := by
  unfold opcDec
  cases targetOf (c.extractLsb' 5 1) <;> rfl

@[simp] theorem operationOf_operationBit (o : Operation) : operationOf (operationBit o) = o := by cases o <;> rfl
@[simp] theorem deviceOf_deviceBit (k : DeviceKind) : deviceOf (deviceBit k) = k := by cases k <;> rfl
@[simp] theorem targetOf_targetBit (t : Target) : targetOf (targetBit t) = t := by cases t <;> rfl
@[simp] theorem operationBit_operationOf (b : BitVec 1) : operationBit (operationOf b) = b := by revert b; decide
@[simp] theorem deviceBit_deviceOf (b : BitVec 1) : deviceBit (deviceOf b) = b := by revert b; decide
@[simp] theorem targetBit_targetOf (b : BitVec 1) : targetBit (targetOf b) = b := by revert b; decide

/-- The four fields of an operation code (R66). -/
theorem opcodeByte_eq_iff {o t g : BitVec 1} {m : BitVec 5} {c : Byte} :
    o ++ t ++ g ++ m = c ↔
      c.extractLsb' 7 1 = o ∧ c.extractLsb' 6 1 = t ∧ c.extractLsb' 5 1 = g ∧ c.extractLsb' 0 5 = m := by
  have hlast : o ++ t ++ g ++ m = c ↔ c.extractLsb' 5 3 = o ++ t ++ g ∧ c.extractLsb' 0 5 = m := append_eq_iff_fields
  rw [hlast, eq_comm, append_append_eq_iff_fields, extractLsb'_extractLsb' c (by decide),
    extractLsb'_extractLsb' c (by decide), extractLsb'_extractLsb' c (by decide), and_assoc, and_assoc]

/-- A code is that of a descriptor exactly when its fields are those of the descriptor. -/
theorem opcEnc_eq_iff {p : Params} {d : OpDesc} {c : Byte} :
    opcEnc p d = c ↔
      c.extractLsb' 7 1 = operationBit d.operation ∧ c.extractLsb' 6 1 = deviceBit d.type ∧
        c.extractLsb' 5 1 = targetBit d.target ∧ c.extractLsb' 0 5 = methodCode p d.target d.method := by
  rw [opcEnc_eq, opcodeByte_eq_iff]

theorem toNat_methodBits (c : Byte) : (c.extractLsb' 0 5).toNat = c.toNat % 32 := by
  rw [BitVec.extractLsb'_toNat, Nat.shiftRight_zero]

/-- The target bit is clear, or it is set. -/
theorem targetBits_eq_zero_or_one (c : Byte) :
    (c.toNat / 32 % 2 = 0 ∧ targetOf (c.extractLsb' 5 1) = .resource) ∨
      (c.toNat / 32 % 2 = 1 ∧ targetOf (c.extractLsb' 5 1) = .system) := by
  have hbit : c.extractLsb' 5 1 = 1#1 ↔ c.toNat / 32 % 2 = 1 := extractLsb'_one_eq_one_iff
  by_cases h : c.toNat / 32 % 2 = 1
  · exact .inr ⟨h, if_pos (hbit.mpr h)⟩
  · exact .inl ⟨by omega, if_neg (mt hbit.mp h)⟩

theorem toNat_opcEnc (p : Params) (d : OpDesc) :
    (opcEnc p d).toNat = (operationBit d.operation).toNat * 128 + (deviceBit d.type).toNat * 64 +
      (targetBit d.target).toNat * 32 + (methodCode p d.target d.method).toNat := by
  rw [opcEnc_eq, toNat_append_eq_add, toNat_append_eq_add, toNat_append_eq_add]
  omega

/-- Settles O31: the fields of a descriptor's code are digits, and each table gives the last of them. -/
theorem opcEncPacksDescriptor : Obligations.OpcEncPacksDescriptor := by
  intro vt s
  refine ⟨_, _, rfl, deliver_spec _ s, ?_⟩
  rw [toNat_opcEnc]
  obtain ⟨method, target, type, operation⟩ := s.ports.opDesc
  have hoperation : (operationBit operation).toNat * 128 = if operation = .response then 128 else 0 := by
    cases operation <;> rfl
  have htype : (deviceBit type).toNat * 64 = if type = .subDevice then 64 else 0 := by cases type <;> rfl
  have htarget : (targetBit target).toNat * 32 = if target = .system then 32 else 0 := by cases target <;> rfl
  rw [hoperation, htype, htarget]
  cases target <;> cases method <;> rfl

/-- Settles O32: bits 7, 6 and 5 are digits of the code, and the low five bits are read by the table of the target. -/
theorem opcDecSplitsCode : Obligations.OpcDecSplitsCode := by
  intro vt s
  refine ⟨_, _, rfl, deliver_spec _ s, ?_, ?_, ?_, ?_⟩
  · have hbit : s.ports.opcode.extractLsb' 7 1 = 1#1 ↔ 128 ≤ s.ports.opcode.toNat := by
      have hlt := s.ports.opcode.isLt
      rw [extractLsb'_one_eq_one_iff]
      omega
    simp only [opcDec_eq, operationOf, hbit]
  · simp only [opcDec_eq, deviceOf, extractLsb'_one_eq_one_iff]
    rfl
  · simp only [opcDec_eq, targetOf, extractLsb'_one_eq_one_iff]
    rfl
  · rw [opcDec_eq, ← toNat_methodBits]
    obtain ⟨hbit, htarget⟩ | ⟨hbit, htarget⟩ := targetBits_eq_zero_or_one s.ports.opcode
    · rw [htarget, if_pos hbit]
      rfl
    · rw [htarget, if_neg (by omega)]
      rfl

/-- The resource method codes that are the code of their own name (R150). -/
theorem resMethodCode_resMethodName_iff {m : BitVec 5} : resMethodCode (resMethodName m) = m ↔ m.toNat ∈ [1, 2, 3] := by
  revert m
  decide

/-- The system method codes that are the code of their own name: those with a name of their own, and the register code
(R150). -/
theorem sysMethodCode_sysMethodName_iff {p : Params} {m : BitVec 5} :
    sysMethodCode p (sysMethodName m) = m ↔
      m.toNat ∈ [0, 1, 3, 4, 5, 6, 7, 0x1D, 0x1E, 0x1F] ∨ m.toNat = p.sysRegisterCode.toNat := by
  rw [← BitVec.toNat_inj]
  unfold sysMethodName
  split
  case h_11 => simp_all [sysMethodCode, eq_comm]
  all_goals
    next h => simp [h, sysMethodCode]

/-- Where a method belongs to its target, its code is decoded as its name (R150). -/
theorem methodName_methodCode {p : Params} {target : Target} {method : Method}
    (h : if target = .resource then method ∈ [.read, .write, .notify]
      else method ∉ [.read, .write, .notify] ∧ (method = .register → sysMethodName p.sysRegisterCode = .register)) :
    methodName target (methodCode p target method) = method := by
  cases target with
  | resource =>
    have hmem : method ∈ [.read, .write, .notify] := h
    exact (by decide : ∀ x ∈ [Method.read, .write, .notify], resMethodName (resMethodCode x) = x) method hmem
  | system =>
    have hsystem : method ∉ [.read, .write, .notify] ∧
      (method = .register → sysMethodName p.sysRegisterCode = .register) := h
    obtain ⟨hforeign, hregister⟩ := hsystem
    cases method with
    | register => exact hregister rfl
    | read | write | notify => exact absurd (by decide) hforeign
    | _ => rfl

/-- Settles O33: in both directions the three bits come back, so all turns on the method tables. -/
theorem operationCodeRoundTrips : Obligations.OperationCodeRoundTrips := by
  refine ⟨fun p c => ?_, fun p d h => ?_⟩
  · rw [opcEnc_eq_iff]
    simp only [opcDec_eq, operationBit_operationOf, deviceBit_deviceOf, targetBit_targetOf, true_and]
    rw [eq_comm, ← toNat_methodBits]
    obtain ⟨hbit, htarget⟩ | ⟨hbit, htarget⟩ := targetBits_eq_zero_or_one c
    · rw [htarget, if_pos hbit]
      exact resMethodCode_resMethodName_iff
    · rw [htarget, if_neg (by omega)]
      exact sysMethodCode_sysMethodName_iff
  · obtain ⟨hoperation, htype, htarget, hmethod⟩ := opcEnc_eq_iff.mp (rfl : opcEnc p d = opcEnc p d)
    rw [opcDec_eq, hoperation, htype, htarget, hmethod, targetOf_targetBit, deviceOf_deviceBit, operationOf_operationBit,
      methodName_methodCode h]

/-! ### The predicates on an operation code and the treatments they choose (R151, R208, R220) -/

theorem isResponse_iff {c : Byte} : isResponse c = true ↔ 128 ≤ c.toNat := by
  have hlt := c.isLt
  rw [isResponse, getLsbD_eq_true_iff]
  omega

theorem isSubDevice_iff {c : Byte} : isSubDevice c = true ↔ c.toNat / 64 % 2 = 1 := getLsbD_eq_true_iff

theorem isSystem_iff {c : Byte} : isSystem c = true ↔ c.toNat / 32 % 2 = 1 := getLsbD_eq_true_iff

theorem isRead_iff {c : Byte} : isRead c = true ↔ c.toNat / 32 % 2 = 0 ∧ c.toNat % 32 = 1 := by
  have hmethod : c.extractLsb' 0 5 = 1#5 ↔ c.toNat % 32 = 1 := by
    rw [← BitVec.toNat_inj, toNat_methodBits]
    rfl
  simp [isRead, ← hmethod, ← Bool.not_eq_true, isSystem_iff]

theorem tightened_iff {c : Byte} :
    tightened c = true ↔ c.toNat < 128 ∧ ¬(c.toNat / 64 % 2 = 0 ∧ c.toNat / 32 % 2 = 1) := by
  simp only [tightened, Bool.and_eq_true, Bool.not_eq_true', ← Bool.not_eq_true, isResponse_iff, isSubDevice_iff,
    isSystem_iff]
  omega

theorem lastBare_iff {c : Byte} : lastBare c = true ↔ c = 0x41 ∨ c = 0xC2 := by simp [lastBare, lastBareCodes]

theorem flattens_iff {c : Byte} : flattens c = true ↔ c = 0x43 ∨ c = 0xC1 := by simp [flattens, flattenCodes]

/-- The treatment of every code: the codes listed by value, each evaluated, and below them bit 6 alone (R208, R220). -/
theorem treatmentOf_eq (c : Byte) :
    treatmentOf c =
      if c ∈ [(0x7F : Byte), 0x7E, 0x64, 0x65] then .modeB 2 false
      else if c ∈ [(0x62 : Byte), 0x63] then .modeB 3 false
      else if c ∈ [(0x41 : Byte), 0xC2] then .modeB 3 true
      else if c ∈ [(0x43 : Byte), 0xC1] then .modeA true
      else if c.toNat / 64 % 2 = 1 then .modeA false
      else .deviceLevel (decide (c = 0x01)) := by
  have hlevel : c.extractLsb' 6 1 = 1#1 ↔ c.toNat / 64 % 2 = 1 := extractLsb'_one_eq_one_iff
  split_ifs with hpair htriple hbare hflat hsub
  · exact (by decide : ∀ x ∈ [(0x7F : Byte), 0x7E, 0x64, 0x65], treatmentOf x = .modeB 2 false) c hpair
  · exact (by decide : ∀ x ∈ [(0x62 : Byte), 0x63], treatmentOf x = .modeB 3 false) c htriple
  · exact (by decide : ∀ x ∈ [(0x41 : Byte), 0xC2], treatmentOf x = .modeB 3 true) c hbare
  · exact (by decide : ∀ x ∈ [(0x43 : Byte), 0xC1], treatmentOf x = .modeA true) c hflat
  · have hnamed : c ∉ namedSubDeviceCodes := by
      simp only [List.mem_cons, List.not_mem_nil, or_false] at hpair htriple hbare hflat
      simp only [namedSubDeviceCodes, List.mem_cons, List.not_mem_nil, or_false]
      tauto
    exact treatmentOf_of_unlisted (hlevel.mpr hsub) hnamed
  · exact treatmentOf_of_device (eq_zero_of_ne_one (mt hlevel.mp hsub))

/-- A function point with `asDict` set where its value is a group. -/
def setAsDict : FunctionPoint → FunctionPoint
  | .mk fid f (.G fps _) => .mk fid f (.G fps true)
  | fp => fp

/-- The flattening pass sets `asDict` on the group values of a group, and changes nothing else (R230). -/
theorem flattenGroups_eq (groups : List (List (Half × TimedPoint))) :
    flattenGroups groups =
      groups.map fun g => g.map fun e => (e.1, { point := setAsDict e.2.point, time := e.2.time }) := by
  have hpoint : ∀ fp : FunctionPoint, pointWithValue fp (asDictionary (pointValue fp)) = setAsDict fp := by
    rintro ⟨fid, f, v⟩
    cases v <;> rfl
  simp only [flattenGroups, hpoint]

section
variable {p : Params} {now : TimeStamp} {c : Byte} {payload : Bytes}

theorem decodePayload_of_modeB {n : Nat} {lastIsBare : Bool} (h : treatmentOf c = .modeB n lastIsBare) :
    decodePayload p now c payload = (modeB n lastIsBare payload).map .modeB := by rw [decodePayload, h]

theorem decodePayload_of_modeA (h : treatmentOf c = .modeA false) :
    decodePayload p now c payload = (modeA p now payload).map .modeA := by
  rw [decodePayload, h]
  rfl

/-- The flattening pass is applied to the groups of mode A (R230). -/
theorem decodePayload_of_flatten (h : treatmentOf c = .modeA true) :
    decodePayload p now c payload = (modeA p now payload).map fun groups =>
      .modeA (groups.map fun g => g.map fun e => (e.1, { point := setAsDict e.2.point, time := e.2.time })) := by
  simp only [decodePayload, h, if_true, flattenGroups_eq]

/-- At device level the function points are listed by their ids (R231). -/
theorem decodePayload_of_deviceLevel {bare : Bool} (h : treatmentOf c = .deviceLevel bare) :
    decodePayload p now c payload =
      (decodeWindow p bare payload).map fun fps => .device (fps.map fun fp => (pointId fp, fp)) := by
  rw [decodePayload, h]

end

/-- Settles O52: the treatment of a code is that of `treatmentOf_eq`, and the payload is decoded by it. -/
theorem treatmentOfEveryCode : Obligations.TreatmentOfEveryCode := by
  intro c
  have htreatment := treatmentOf_eq c
  refine ⟨⟨isResponse_iff, isSubDevice_iff, isSystem_iff, isRead_iff, decide_eq_true_iff, decide_eq_true_iff,
    tightened_iff, rfl, lastBare_iff, flattens_iff⟩, htreatment, fun p now payload => ?_⟩
  split_ifs at htreatment ⊢
  · exact decodePayload_of_modeB htreatment
  · exact decodePayload_of_modeB htreatment
  · exact decodePayload_of_modeB htreatment
  · exact decodePayload_of_flatten htreatment
  · exact decodePayload_of_modeA htreatment
  · refine (decodePayload_of_deviceLevel htreatment).trans ?_
    have hpoint : ∀ fp : FunctionPoint, (pointId fp, fp) = match fp with | .mk fid f v => (fid, .mk fid f v) := by
      rintro ⟨fid, f, v⟩
      rfl
    exact congrArg (fun byId => (decodeWindow p _ payload).map fun fps => Payload.device (List.map byId fps))
      (funext hpoint)

/-! ### The operation-code rows (R66 to R68) -/

/-- The low six bits of a code, as a number, hold its target and its method code. -/
theorem opcDec_of_low {c : Byte} {n : Nat} (h : (c.extractLsb' 0 6).toNat = n) :
    opcDec c =
      { method := methodName (targetOf ((BitVec.ofNat 6 n).extractLsb' 5 1)) ((BitVec.ofNat 6 n).extractLsb' 0 5)
        target := targetOf ((BitVec.ofNat 6 n).extractLsb' 5 1)
        type := deviceOf (c.extractLsb' 6 1)
        operation := operationOf (c.extractLsb' 7 1) } := by
  have hlow : BitVec.ofNat 6 n = c.extractLsb' 0 6 := by rw [← h, BitVec.ofNat_toNat, BitVec.setWidth_eq]
  rw [opcDec_eq, hlow, extractLsb'_extractLsb' c (by decide), extractLsb'_extractLsb' c (by decide)]

/-- R148, R149: the row a code is decoded to delivers the descriptor of the code. -/
theorem exec_decodeOperationCode (c : Byte) (s : State) :
    exec (decodeOperationCode c) s = .next (deliver (.descriptor (opcDec c)) s) := by
  unfold decodeOperationCode
  split
  case h_64 =>
    have hlow : (c.extractLsb' 0 6).toNat = 63 := by
      have hlt := (c.extractLsb' 0 6).isLt
      simp only [imp_false] at *
      omega
    rw [opcDec_of_low hlow]
    rfl
  all_goals
    next hlow =>
      rw [opcDec_of_low hlow]
      rfl

theorem decode_opc8_eq_ok {bs : Bytes} {i : Instr} (h : decode .opc8 bs = .ok i) :
    ∃ c, bs = [c] ∧ decodeOperationCode c = i := by
  obtain _ | ⟨c, _ | ⟨_, _⟩⟩ := bs
  · cases h
  · exact ⟨c, rfl, Except.ok.inj h⟩
  · cases h

/-- Every operation-code row is the row its word is decoded to. -/
theorem exists_decodeOperationCode {i : Instr} (hf : i.format = .opc8) :
    ∃ c, encode i = [c] ∧ decodeOperationCode c = i := by
  have hwf : i.wellFormed = true := by
    cases i with
    | opcsetModeaDefault | opcsetDeviceDefault | verNoMsgId | verWithMsgId => cases hf
    | _ => rfl
  exact decode_opc8_eq_ok (hf ▸ decodeOfEncodeIsIdentity i hwf)

/-- Settles O55: a row is the row of its word, and delivers the descriptor of that. -/
theorem operationCodeRowsDecode : Obligations.OperationCodeRowsDecode := by
  intro i s hf
  obtain ⟨c, hword, rfl⟩ := exists_decodeOperationCode hf
  exact ⟨_, c, hword, exec_decodeOperationCode c s, deliver_spec _ s⟩

/-! ### The function-id rows (R71 to R75) -/

/-- How the selector ends on an id under a legal `DT_CODE` (R113). -/
theorem readSelector_spec {s : State} (hp : paramsWf s.params = true) (fid : Half) :
    ∃ t, readSelector fid s = .next t ∧
      if fidDataTypeBits fid = 0 then FaultedWith s t .unknownDataType none
      else ∃ tag, valSel s.params fid = .ok tag ∧ DeliveredWith s t (.selected tag) := by
  unfold readSelector
  by_cases h : fidDataTypeBits fid = 0
  · simp only [valSel_of_zero h, if_pos h]
    exact ⟨_, rfl, takeFault_spec .unknownDataType none s⟩
  · obtain ⟨ty, hty, -⟩ := exists_dataTypeOf hp h
    simp only [valSel_of_dataType h hty, if_neg h]
    exact ⟨_, rfl, _, rfl, deliver_spec _ s⟩

/-- The word of an id is its two bytes. -/
theorem exists_fidBytes (fid : Half) : ∃ hi lo, fidBytes fid = [hi, lo] ∧ hi ++ lo = fid :=
  ⟨_, _, rfl, fidBytes_joined fid⟩

/-- A data type row is the selector on the id of its word. -/
theorem exec_dataTypeRow {i : Instr} (hf : i.format = .fidDataType) :
    ∃ fid, encode i = fidBytes fid ∧ ∀ s, exec i s = readSelector fid s := by
  cases i with
  | fid16DataType0Reserved | fid16DataType1Boolean | fid16DataType2Enum | fid16DataType3Integer | fid16DataType4Float
  | fid16DataType5Buffer | fid16DataType6Exception | fid16DataType7String => exact ⟨_, rfl, fun _ => rfl⟩
  | _ => cases hf

/-- A function type row and a resource range row are the function-point codec on the id of their word. -/
theorem exec_fieldsRow {i : Instr} (hf : i.format = .fidFunctionType ∨ i.format = .fidResourceType) :
    ∃ fid, encode i = fidBytes fid ∧ ∀ s, exec i s = readFields fid s := by
  cases i with
  | fid16FunctionType0Reserve | fid16FunctionType1Custom | fid16FunctionType2Property | fid16FunctionType3Event
  | fid16ResourceTypeCommon000To3ff | fid16ResourceTypeCommon400To4ff | fid16ResourceTypeCombine500To5ff
  | fid16ResourceTypeCombine600To6ff | fid16ResourceTypeStatic700To7ff => exact ⟨_, rfl, fun _ => rfl⟩
  | _ => rcases hf with hf | hf <;> cases hf

/-- Settles O57: each row is the selector or the codec on the id of its word, and a marker row delivers its role. -/
theorem functionIdRowsDecode : Obligations.FunctionIdRowsDecode := by
  refine ⟨fun i s hf hp => ?_, fun i s hf => ?_, fun s => ⟨⟨_, rfl, deliver_spec _ s⟩, _, rfl, deliver_spec _ s⟩⟩
  · obtain ⟨fid, hword, hexec⟩ := exec_dataTypeRow hf
    obtain ⟨hi, lo, hbytes, rfl⟩ := exists_fidBytes fid
    obtain ⟨t, hnext, hend⟩ := readSelector_spec hp (hi ++ lo)
    simp only [fidDataTypeBits_append_eq_zero_iff] at hend
    exact ⟨t, hi, lo, hword.trans hbytes, (hexec s).trans hnext, hend⟩
  · obtain ⟨fid, hword, hexec⟩ := exec_fieldsRow hf
    obtain ⟨hi, lo, hbytes, rfl⟩ := exists_fidBytes fid
    obtain ⟨t, hnext, hend⟩ := readFields_spec (hi ++ lo) s
    simp only [fidDataTypeBits_append_eq_zero_iff] at hend
    exact ⟨t, hi, lo, hword.trans hbytes, (hexec s).trans hnext, hend⟩

end Sys2Proof.Machine
end

section
/-! PROOFS. The codec of length words (spec/43_varlen_prefix.md) and the rows of its format. A length word of `k` bytes is a
number whose first byte names the class `k`: it lies in the `2 ^ (8 * k - 2)` numbers from the bias of the class on. What
`VLP.DEC` gives, and that it undoes `VLP.ENC` and every row, are read off that range. -/

namespace Sys2Proof.Machine

open Sys2Proof

/-! ### Length words as numbers (R162) -/

theorem vlpSize_pos (b0 : Nat) : 0 < vlpSize b0 := by
  unfold vlpSize
  split_ifs <;> decide

/-- The class of a first byte and the bias of that class (R77). -/
theorem vlpSize_and_vlpBias (b0 : Nat) :
    if b0 ≤ 63 then vlpSize b0 = 1 ∧ vlpBias (vlpSize b0) = 0
    else if b0 ≤ 127 then vlpSize b0 = 2 ∧ vlpBias (vlpSize b0) = 16384
    else if b0 ≤ 191 then vlpSize b0 = 3 ∧ vlpBias (vlpSize b0) = 8388608
    else vlpSize b0 = 4 ∧ vlpBias (vlpSize b0) = 0xC0000000 := by
  unfold vlpSize
  split_ifs <;> exact ⟨rfl, rfl⟩

/-- A whole length word is a length of its class on top of the bias: the first byte bounds the number on both sides. -/
theorem exists_length_of_prefix {b0 : Byte} {tail : Bytes} (hsize : vlpSize b0.toNat = tail.length + 1) :
    ∃ len, len + vlpBias (tail.length + 1) = ubeNat (b0 :: tail) ∧ len < 2 ^ (8 * (tail.length + 1) - 2) := by
  have hbyte := b0.isLt
  have htail := ubeNat_lt tail
  rw [ubeNat_cons]
  generalize ubeNat tail = v at htail
  generalize tail.length = n at *
  suffices h : vlpBias (n + 1) ≤ b0.toNat * 256 ^ n + v ∧
      b0.toNat * 256 ^ n + v < vlpBias (n + 1) + 2 ^ (8 * (n + 1) - 2) from
    ⟨b0.toNat * 256 ^ n + v - vlpBias (n + 1), by omega, by omega⟩
  unfold vlpSize at hsize
  split_ifs at hsize with h1 h2 h3
  all_goals
    obtain rfl := Nat.succ.inj hsize
    simp only [vlpBias]
    omega

/-- A length word that is whole in the window is read as its length, at any offset. -/
theorem vlpDec_of_prefix {w tail rest : Bytes} {pos : Nat} {b0 : Byte} (hdrop : w.drop pos = b0 :: tail ++ rest)
    (hsize : vlpSize b0.toNat = tail.length + 1) :
    ∃ len, len + vlpBias (tail.length + 1) = ubeNat (b0 :: tail) ∧ len < 2 ^ (8 * (tail.length + 1) - 2) ∧
      vlpDec w pos = .ok (len, tail.length + 1) := by
  obtain ⟨len, hlen, hlt⟩ := exists_length_of_prefix hsize
  have hfirst : memRead w pos 1 = .ok b0.toNat := memRead_one_of_drop hdrop
  have hall : memRead w pos (tail.length + 1) = .ok (ubeNat (b0 :: tail)) := memRead_of_drop hdrop (Nat.succ_pos _)
  exact ⟨len, hlen, hlt, vlpDec_eq_ok.mpr ⟨_, hfirst, hsize.symm, _, hsize ▸ hall, by rw [hsize]; omega⟩⟩

theorem vlpDec_of_drop_nil {w : Bytes} {pos : Nat} (hdrop : w.drop pos = []) : vlpDec w pos = .error .malformedFrame := by
  simp [vlpDec, memRead_one_of_drop_nil hdrop]

/-- A length word the window end cuts off is not read (R46). -/
theorem vlpDec_of_lt {w rest : Bytes} {pos : Nat} {b0 : Byte} (hdrop : w.drop pos = b0 :: rest)
    (hlt : w.length < pos + vlpSize b0.toNat) : vlpDec w pos = .error .malformedFrame := by
  simp [vlpDec, memRead_one_of_drop hdrop, memRead_eq_error.mpr ⟨hlt, rfl⟩]

/-! ### The codec and its two commands (R160 to R165) -/

/-- Bytes that hold a number hold it whole. -/
theorem ubeNat_beBytes_of_lt {n v : Nat} (h : v < 256 ^ n) : ubeNat (beBytes n v) = v := by
  rw [ubeNat_beBytes, Nat.mod_eq_of_lt h]

/-- R160: the class that `VLP.ENC` picks, and the number it writes. -/
theorem vlpEnc_smallest {len : Nat} {p : Bytes} (h : vlpEnc len = .ok p) :
    if len ≤ 63 then p.length = 1 ∧ ubeNat p = len
    else if len ≤ 16383 then p.length = 2 ∧ ubeNat p = len + 16384
    else if len ≤ 4194303 then p.length = 3 ∧ ubeNat p = len + 8388608
    else p.length = 4 ∧ ubeNat p = len + 0xC0000000 := by
  simp only [vlpEnc, maxLen, vlpBias] at h
  split_ifs at h ⊢
  all_goals
    obtain rfl := Except.ok.inj h
    exact ⟨beBytes_length _ _, ubeNat_beBytes_of_lt (by omega)⟩

/-- `VLP.ENC` ends as the codec says. -/
theorem exec_vlpEnc_encodes (vt : BitVec 3) (s : State) :
    ∃ t, exec (.vlpEnc vt) s = .next t ∧ EncodedTo s t (vlpEnc s.ports.len) := by
  have hexec : exec (.vlpEnc vt) s = finishEmit (vlpEnc s.ports.len) s := rfl
  rw [hexec]
  cases vlpEnc s.ports.len with
  | ok bs => exact ⟨_, rfl, emit_spec bs s⟩
  | error k => exact ⟨_, rfl, takeFault_spec k none s⟩

/-- `VLP.DEC` ends as the codec says. -/
theorem exec_vlpDec_reads (vt : BitVec 3) (s : State) :
    ∃ t, exec (.vlpDec vt) s = .next t ∧
      (∀ len k, vlpDec s.window s.offset = .ok (len, k) → ReadWith s t (.length len k) (s.offset + k)) ∧
      ∀ e, vlpDec s.window s.offset = .error e → FaultedWith s t e none := by
  have hexec : exec (.vlpDec vt) s =
    finishRead ((vlpDec s.window s.offset).map fun r => (.length r.1 r.2, r.2)) s.offset s := rfl
  rw [hexec]
  cases vlpDec s.window s.offset with
  | ok r =>
    obtain ⟨t, hnext, hread⟩ := finishRead_spec (.length r.1 r.2) s.offset r.2 s
    refine ⟨t, hnext, fun len k hr => ?_, fun _ hr => nomatch hr⟩
    obtain rfl := Except.ok.inj hr
    exact hread
  | error e =>
    refine ⟨_, rfl, fun _ _ hr => (nomatch hr), fun _ hr => ?_⟩
    obtain rfl := Except.error.inj hr
    exact takeFault_spec e none s

/-- Settles O34: above the largest length the fault; else the length word of the class that `vlpEnc_smallest` names. -/
theorem vlpEncPicksSmallestClass : Obligations.VlpEncPicksSmallestClass := by
  intro vt s
  obtain ⟨t, hexec, h⟩ := exec_vlpEnc_encodes vt s
  refine ⟨t, hexec, ?_⟩
  split
  case isTrue hmax => exact h.faulted (vlpEnc_of_lt hmax)
  case isFalse hle =>
    obtain ⟨p, hp⟩ := exists_vlpEnc_of_le (Nat.not_lt.mp hle)
    exact ⟨p, h.emitted hp, vlpEnc_smallest hp⟩

/-- Settles O35: there is no first byte, the length word it begins is whole in the window, or the window end cuts it off. -/
theorem vlpDecReadsOrFaults : Obligations.VlpDecReadsOrFaults := by
  intro vt s
  obtain ⟨t, hexec, hread, hfault⟩ := exec_vlpDec_reads vt s
  refine ⟨t, hexec, ?_⟩
  split
  case h_1 hnil => exact hfault _ (vlpDec_of_drop_nil hnil)
  case h_2 b0 rest hcons =>
    refine ⟨vlpSize b0.toNat, vlpBias (vlpSize b0.toNat), vlpSize_and_vlpBias b0.toNat, ?_⟩
    split
    case isFalse hlt => exact hfault _ (vlpDec_of_lt hcons (Nat.not_le.mp hlt))
    case isTrue hle =>
      obtain ⟨n, hn⟩ := Nat.exists_eq_succ_of_ne_zero (vlpSize_pos b0.toNat).ne'
      have hrest := congrArg List.length hcons
      rw [List.length_drop, List.length_cons] at hrest
      have hlen : (rest.take n).length = n := List.length_take_of_le (by omega)
      obtain ⟨len, hsum, hlt, hdec⟩ := vlpDec_of_prefix (tail := rest.take n) (rest := rest.drop n)
        (by rw [hcons, List.cons_append, List.take_append_drop]) (by rw [hn, hlen])
      rw [hlen] at hsum hlt hdec
      rw [hn]
      exact ⟨len, hsum, hlt, hread len _ hdec⟩

/-- The bytes of a class hold every biased length of it, and their first byte names the class (R77). -/
theorem biasedLength_range {n len : Nat} (hn : n < 4) (hlen : len < 2 ^ (8 * n + 6)) :
    len + vlpBias (n + 1) < 256 ^ (n + 1) ∧ vlpSize ((len + vlpBias (n + 1)) / 256 ^ n) = n + 1 := by
  unfold vlpSize
  interval_cases n
  all_goals
    simp only [vlpBias]
    split_ifs <;> omega

/-- A length word of any class is read as its length, whatever follows it, even where a smaller class holds the length
(R163, R165). -/
theorem vlpDec_beBytes {n len : Nat} (rest : Bytes) (hn : n < 4) (hlen : len < 2 ^ (8 * n + 6)) :
    vlpDec (beBytes (n + 1) (len + vlpBias (n + 1)) ++ rest) 0 = .ok (len, n + 1) := by
  obtain ⟨hlt, hsize⟩ := biasedLength_range hn hlen
  have hnum := ubeNat_beBytes_of_lt hlt
  generalize hv : len + vlpBias (n + 1) = v at *
  have hfirst : (BitVec.ofNat 8 (v / 256 ^ n)).toNat = v / 256 ^ n := by
    rw [BitVec.toNat_ofNat, Nat.mod_eq_of_lt (Nat.div_lt_of_lt_mul (by rwa [← pow_succ]))]
  obtain ⟨len', hsum, -, hdec⟩ := vlpDec_of_prefix (w := beBytes (n + 1) v ++ rest) (pos := 0) rfl
    (by rw [hfirst, hsize, beBytes_length])
  rw [beBytes_length] at hsum hdec
  rw [hdec, show len' = len by rw [beBytes] at hnum; omega]

/-- Settles O36: the length word that `VLP.ENC` picks is read back, and so is one of any larger class. -/
theorem vlpRoundTrips : Obligations.VlpRoundTrips := by
  intro len rest
  refine ⟨fun hle => ?_, ?_, ?_, ?_⟩
  · obtain ⟨p, hp⟩ := exists_vlpEnc_of_le hle
    exact ⟨p, hp, vlpDec_vlpEnc rest hp⟩
  · simpa only [vlpBias] using vlpDec_beBytes (n := 1) (len := len) rest (by decide)
  · simpa only [vlpBias] using vlpDec_beBytes (n := 2) (len := len) rest (by decide)
  · simpa only [vlpBias] using vlpDec_beBytes (n := 3) (len := len) rest (by decide)

/-! ### The length-word rows (R77) -/

/-- A byte sequence is the one that writes its number. -/
theorem eq_beBytes_of_ubeNat {bs : Bytes} {v : Nat} (h : ubeNat bs = v) : bs = beBytes bs.length v := by
  rw [← h, beBytes_ubeNat]

/-- The class bits stand above the first six bits of the length. -/
theorem toNat_prefixByte (size : BitVec 2) (high : BitVec 6) :
    (size ++ high : Byte).toNat = size.toNat * 64 + high.toNat := toNat_append_eq_add size high

/-- The number of the word of each row: its length on top of the bias of its class (R77). -/
theorem ubeNat_encode_prefixRow :
    (∀ len, ubeNat (encode (.vlpClass1 len)) = len.toNat + vlpBias 1) ∧
      (∀ len, ubeNat (encode (.vlpClass2 len)) = len.toNat + vlpBias 2) ∧
      (∀ len, ubeNat (encode (.vlpClass3 len)) = len.toNat + vlpBias 3) ∧
      ∀ len, ubeNat (encode (.vlpClass4 len)) = len.toNat + vlpBias 4 := by
  refine ⟨?_, ?_, ?_, ?_⟩
  all_goals
    intro len
    have hlt := len.isLt
    simp only [encode, ubeNat_cons, ubeNat_nil, List.length_cons, List.length_nil, toNat_prefixByte, BitVec.toNat_ofNat,
      BitVec.extractLsb'_toNat, Nat.shiftRight_eq_div_pow, vlpBias]
    omega

/-- A length-word row is the length word of a length in the class of the row, and delivers that length and its class. -/
theorem exec_prefixRow {i : Instr} (hf : i.format = .vlp) :
    ∃ n len, n < 4 ∧ len < 2 ^ (8 * n + 6) ∧ encode i = beBytes (n + 1) (len + vlpBias (n + 1)) ∧
      ∀ s, exec i s = readPrefix len (n + 1) s := by
  obtain ⟨hone, htwo, hthree, hfour⟩ := ubeNat_encode_prefixRow
  cases i with
  | vlpClass1 len => exact ⟨0, len.toNat, by decide, len.isLt, eq_beBytes_of_ubeNat (hone len), fun _ => rfl⟩
  | vlpClass2 len => exact ⟨1, len.toNat, by decide, len.isLt, eq_beBytes_of_ubeNat (htwo len), fun _ => rfl⟩
  | vlpClass3 len => exact ⟨2, len.toNat, by decide, len.isLt, eq_beBytes_of_ubeNat (hthree len), fun _ => rfl⟩
  | vlpClass4 len => exact ⟨3, len.toNat, by decide, len.isLt, eq_beBytes_of_ubeNat (hfour len), fun _ => rfl⟩
  | _ => cases hf

/-- Settles O58: a row is a length word of its class, which `VLP.DEC` reads as the length the row delivers. -/
theorem prefixRowsDecode : Obligations.PrefixRowsDecode := by
  intro i s hf
  obtain ⟨n, len, hn, hlen, hword, hexec⟩ := exec_prefixRow hf
  obtain ⟨t, hnext, hread⟩ := finishRead_spec (.length len (n + 1)) 0 (n + 1) s
  have hdec := vlpDec_beBytes [] hn hlen
  rw [List.append_nil] at hdec
  rw [Nat.zero_add] at hread
  exact ⟨t, len, n + 1, hword ▸ hdec, by rw [hword, beBytes_length], (hexec s).trans hnext, hread⟩

end Sys2Proof.Machine
end

section
/-! PROOFS. The packager (spec/44_packager.md). `PKG` checks the version, the response code and the arity, and encodes the
entries and wraps them; what is left then is a frame, its body and the CRC of that (`packageFrame_eq`). The statements are
read off that one equation. -/

namespace Sys2Proof.Machine

open Sys2Proof

/-! ### The entries and the groups (R166, R179 to R182) -/

/-- The bytes of an entry stand before those of the rest, and so does its fault (R179). -/
theorem encodeEntries_cons (bare : Bool) (e : Entry) (es : Entries) :
    encodeEntries bare (.cons e es) =
      encodeEntry bare e >>= fun bs => (encodeEntries bare es).map fun rest => bs ++ rest := by
  rw [encodeEntries]
  cases encodeEntry bare e with
  | error k => rfl
  | ok bs => cases encodeEntries bare es <;> rfl

/-- R180: the id and, unless the request is bare, the bytes of the named transcoder. -/
theorem encodeEntry_plain (bare : Bool) (fid : Half) (tag : Tag) (v : Value) :
    encodeEntry bare (.plain fid tag v) =
      (if bare = true then .ok [] else valEnc tag v).map fun value =>
        fid.extractLsb' 8 8 :: fid.extractLsb' 0 8 :: value := by
  rw [encodeEntry, encodePlain, beBytes_half]
  cases bare <;> rfl

/-- R181: the members, then the wrapper around them. -/
theorem encodeEntry_group (bare : Bool) (gid : Half) (ps : Entries) :
    encodeEntry bare (.group gid ps) = encodeEntries bare ps >>= wrapTop (some gid) := by
  rw [encodeEntry]
  cases encodeEntries bare ps <;> rfl

/-- R166, R182: the id, the length word of the inner bytes, and those bytes. -/
theorem wrapTop_some (gid : Half) (inner : Bytes) :
    wrapTop (some gid) inner =
      (vlpEnc inner.length).map fun p => gid.extractLsb' 8 8 :: gid.extractLsb' 0 8 :: (p ++ inner) := by
  simp only [wrapTop, wrap, prefixed, beBytes_half]
  cases vlpEnc inner.length <;> rfl

/-! ### The frame (R173 to R178, R183) -/

/-- The first byte of a frame whose version is in range (R173). -/
def firstByte (req : Request) : Byte :=
  BitVec.ofNat 8 (if req.id.isSome = true then req.rawVersion.toNat + 128 else req.rawVersion.toNat)

/-- The response code in a frame: none for a request, whatever `code` says (R176). -/
def frameCode (c : Byte) (code : Option Byte) : Option Byte := if isResponse c = true then code else none

/-- The bytes of a frame before its CRC. -/
def frameBody (first : Byte) (id : Option Word) (c : Byte) (rc : Option Byte) (payload : Bytes) : Bytes :=
  first :: msgIdBytes id ++ c :: rc.toList ++ payload

theorem toNat_firstByte {req : Request} (hlo : 1 ≤ req.rawVersion) (hhi : req.rawVersion ≤ 99) :
    ((firstByte req).toNat : Int) = if req.id.isSome = true then req.rawVersion + 128 else req.rawVersion := by
  rw [firstByte, BitVec.toNat_ofNat]
  split <;> omega

theorem respBytes_eq (c : Byte) (code : Option Byte) :
    respBytes c code =
      if isResponse c = true ∧ code = none then .error .missingField else .ok (frameCode c code).toList := by
  cases hc : isResponse c <;> cases code <;> simp [respBytes, frameCode, hc]

theorem isDeviceReadReq_iff {c : Byte} : isDeviceReadReq c = true ↔ c = 0x01 := decide_eq_true_iff

theorem isSubDeviceReadReq_iff {c : Byte} : isSubDeviceReadReq c = true ↔ c = 0x41 := decide_eq_true_iff

theorem checkArity_eq (c : Byte) (n : Nat) :
    checkArity c n = if c = 0x01 ∧ n ≠ 1 ∨ c = 0x41 ∧ n = 0 then .error .arityError else .ok () := by
  simp only [checkArity, isDeviceReadReq_iff, isSubDeviceReadReq_iff, Nat.lt_one_iff]

/-- A check in a chain: its fault, or the rest of the chain. -/
theorem check_bind {α β : Type} {P : Prop} [Decidable P] {k : ErrKind} {a : α} {f : α → Except ErrKind β} :
    ((if P then .error k else .ok a) >>= f) = if P then .error k else f a := by
  split <;> rfl

/-- Past the arity check the code alone says whether the entries are packed bare (R178). -/
theorem isBare_of_arity {c : Byte} {n : Nat} (h : ¬(c = 0x01 ∧ n ≠ 1)) : isBare c n = decide (c = 0x01) := by
  by_cases hc : c = 0x01
  · have hn : n = 1 := by tauto
    rw [hc, hn]
    rfl
  · rw [isBare_of_ne hc, decide_eq_false hc]

/-- R172, R185: the checks of the packager in their order, and the frame of a request that passes them. -/
theorem packageFrame_eq (p : Params) (req : Request) :
    packageFrame p req =
      if req.rawVersion < 1 ∨ 99 < req.rawVersion then .error .valueOutOfRange
      else if isResponse (opByte p req) = true ∧ req.code = none then .error .missingField
      else if opByte p req = 0x01 ∧ (entriesList req.params).length ≠ 1 ∨
          opByte p req = 0x41 ∧ (entriesList req.params).length = 0 then .error .arityError
      else
        (encodeEntries (decide (opByte p req = 0x01)) req.params >>= wrapTop req.groupId).map fun payload =>
          stampFrame (frameBody (firstByte req) req.id (opByte p req) (frameCode (opByte p req) req.code) payload) := by
  have hversion : versionByte req.rawVersion req.id =
      if req.rawVersion < 1 ∨ 99 < req.rawVersion then .error .valueOutOfRange else .ok (firstByte req) := rfl
  simp only [packageFrame, hversion, respBytes_eq, checkArity_eq, check_bind]
  split_ifs with hver hcode harity
  · rfl
  · rfl
  · rfl
  · rw [isBare_of_arity (mt Or.inl harity), ← bind_assoc]
    cases encodeEntries (decide (opByte p req = 0x01)) req.params >>= wrapTop req.groupId with
    | error k => rfl
    | ok payload => simp [bind, Except.bind, Except.map, frameBody]

/-- The frame of a request that passes every check. -/
theorem packageFrame_of_checks {p : Params} {req : Request} {inner payload : Bytes} (hlo : 1 ≤ req.rawVersion)
    (hhi : req.rawVersion ≤ 99) (hcode : isResponse (opByte p req) = true → req.code.isSome = true)
    (hone : opByte p req = 0x01 → (entriesList req.params).length = 1)
    (hsome : opByte p req = 0x41 → 1 ≤ (entriesList req.params).length)
    (hinner : encodeEntries (decide (opByte p req = 0x01)) req.params = .ok inner)
    (hwrap : wrapTop req.groupId inner = .ok payload) :
    packageFrame p req =
      .ok (stampFrame
        (frameBody (firstByte req) req.id (opByte p req) (frameCode (opByte p req) req.code) payload)) := by
  rw [packageFrame_eq, if_neg (by omega), if_neg, if_neg, hinner]
  · simp [bind, Except.bind, Except.map, hwrap]
  · rintro (⟨hc, hn⟩ | ⟨hc, hn⟩)
    · exact hn (hone hc)
    · exact absurd (hsome hc) (by omega)
  · rintro ⟨hc, hnone⟩
    exact absurd (hcode hc) (by simp [hnone])

theorem length_msgIdBytes (id : Option Word) : (msgIdBytes id).length = if id.isSome = true then 4 else 0 := by
  cases id <;> simp [msgIdBytes]

/-- A request has no response code, and a response that passes the check for it has one (R176). -/
theorem length_frameCode {c : Byte} {code : Option Byte} (h : isResponse c = true → code.isSome = true) :
    (frameCode c code).toList.length = if isResponse c = true then 1 else 0 := by
  cases hc : isResponse c with
  | false => simp [frameCode, hc]
  | true =>
    obtain ⟨rc, rfl⟩ := Option.isSome_iff_exists.mp (h hc)
    simp [frameCode, hc]

/-- R183: the two bytes of the CRC, high byte first, behind the bytes it is of. -/
theorem exists_stampFrame (body : Bytes) :
    ∃ hi lo : Byte, hi ++ lo = crcBlock body ∧ stampFrame body = body ++ [hi, lo] :=
  ⟨_, _, append_eq_iff_fields.mpr ⟨rfl, rfl⟩, by rw [stampFrame, beBytes_half]⟩

/-- `t` is `s` after a `PKG` that made this frame, or met this error. -/
def PackagedTo (s t : State) : Except ErrKind Bytes → Prop
  | .ok frame =>
    t.err.valid = false ∧ t.obuf = Memory.ofBytes frame ∧ t.stepCtr = 7 ∧ t.pos = s.pos ∧ t.depth = s.depth ∧
      t.result = s.result ∧ HostSideKept s t
  | .error k => FaultedWith s t k none ∧ t.obuf = []

/-- `PKG` ends as the packager says. -/
theorem exec_pkg_packages (vt : BitVec 3) (s : State) :
    ∃ t, exec (.pkg vt) s = .next t ∧ PackagedTo s t (packageFrame s.params s.ports.request) := by
  refine ⟨_, execPkg_eq_run vt s, ?_⟩
  cases packageFrame s.params s.ports.request with
  | ok frame => exact ⟨rfl, append_nil_eq_ofBytes frame, rfl, rfl, rfl, rfl, HostSideKept.of_eq rfl rfl rfl rfl⟩
  | error k => exact ⟨takeFault_spec k none s, rfl⟩

/-- A `PKG` that faults sets no correlation field and leaves no byte in `OBUF` (R184). -/
theorem PackagedTo.fault_leaves_nothing {s t : State} {r : Except ErrKind Bytes} (h : PackagedTo s t r)
    (hvalid : t.err.valid = true) : t.err.hasOp = false ∧ t.err.hasMsgId = false ∧ ∀ a, t.obuf.read a = none := by
  cases r with
  | ok frame => exact absurd (h.1.symm.trans hvalid) Bool.false_ne_true
  | error k =>
    obtain ⟨⟨⟨-, -, hop, hid⟩, -⟩, hobuf⟩ := h
    exact ⟨hop, hid, fun a => by rw [hobuf]; rfl⟩

/-- Settles O38: `PKG` ends as the packager says, and `packageFrame_eq` gives its checks in their order. -/
theorem packagingChecksInOrder : Obligations.PackagingChecksInOrder := by
  intro vt s
  obtain ⟨t, hexec, h⟩ := exec_pkg_packages vt s
  refine ⟨t, hexec, h.fault_leaves_nothing, ?_⟩
  rw [packageFrame_eq] at h
  split_ifs at h ⊢
  · exact h.1
  · exact h.1
  · exact h.1
  · generalize encodeEntries (decide (opByte s.params s.ports.request = 0x01)) s.ports.request.params = entries at h ⊢
    cases entries with
    | error k => exact h.1
    | ok inner =>
      replace h : PackagedTo s t ((wrapTop s.ports.request.groupId inner).map _) := h
      dsimp only
      generalize wrapTop s.ports.request.groupId inner = wrapped at h ⊢
      cases wrapped with
      | error k => exact h.1
      | ok payload => exact h.1

/-- Settles O37: the entries by the equation of each kind, the operation byte as `OPC.ENC` ends, and the frame part by part,
as `packageFrame_of_checks` puts it together. -/
theorem packagingWritesFrame : Obligations.PackagingWritesFrame := by
  refine ⟨⟨fun _ => rfl, fun bare fid tag v es => ?_, fun bare gid ps es => ?_, fun _ => rfl, fun gid inner => ?_⟩,
    fun p req => ?_, fun vt s req inner payload hreq hlo hhi hcode hone hsome hinner hwrap => ?_⟩
  · rw [encodeEntries_cons, encodeEntry_plain]
    cases (if bare = true then .ok [] else valEnc tag v) <;> rfl
  · rw [encodeEntries_cons, encodeEntry_group]
    cases encodeEntries bare ps with
    | error k => rfl
    | ok inner =>
      show (wrapTop (some gid) inner >>= _) = _
      dsimp only
      cases wrapTop (some gid) inner <;> rfl
  · rw [wrapTop_some]
    split
    case isTrue h =>
      rw [vlpEnc_of_lt h]
      rfl
    case isFalse h =>
      obtain ⟨p, hp⟩ := exists_vlpEnc_of_le (Nat.not_lt.mp h)
      exact ⟨p, hp, by rw [hp]; rfl⟩
  · cases hop : req.opCode with
    | some c => simp only [opByte, hop]
    | none =>
      intro vt s hparams hdesc
      exact ⟨_, rfl, rfl, by simp [opByte, hop, hparams, hdesc]⟩
  · obtain ⟨t, hexec, h⟩ := exec_pkg_packages vt s
    rw [hreq, packageFrame_of_checks hlo hhi hcode hone hsome hinner hwrap] at h
    obtain ⟨hvalid, hobuf, hstep, hpos, hdepth, hresult, hhost⟩ := h
    obtain ⟨hi, lo, hcrc, hframe⟩ := exists_stampFrame
      (frameBody (firstByte req) req.id (opByte s.params req) (frameCode (opByte s.params req) req.code) payload)
    have hbytes := congrArg Memory.bytes hobuf
    rw [ofBytes_bytes, hframe] at hbytes
    refine ⟨t, _, _, _, _, hi, lo, hexec, hvalid, hstep, hpos, hdepth, hresult, hhost, by rw [hobuf, ofBytes_wf],
      toNat_firstByte hlo hhi, ?idBytes, ?code, rfl, hcrc, hbytes, ?length⟩
    case idBytes =>
      cases req.id with
      | none => rfl
      | some i => exact exists_beBytes_word i
    case code =>
      cases hresponse : isResponse (opByte s.params req) <;> cases req.code <;> simp [frameCode, hresponse]
    case length =>
      rw [hbytes]
      simp only [frameBody, List.length_append, List.length_cons, List.length_nil, length_msgIdBytes,
        length_frameCode hcode]
      omega

end Sys2Proof.Machine
end

section
/-! PROOFS. What the parser makes of a stamped frame (spec/45_parser.md R201 to R209): steps 1 to 7 take it apart into the
parts it was put together from, so that only the payload is left to decode (`parseFrame_stampFrame`). With that, the bare
READ request comes back. -/

namespace Sys2Proof.Machine

open Sys2Proof

/-! ### Reading a stamped frame (R201 to R209) -/

theorem take_stampFrame (body : Bytes) : (stampFrame body).take ((stampFrame body).length - 2) = body := by
  simp [stampFrame]

/-- The last two bytes of a stamped frame hold the CRC of the others (R183). -/
theorem ubeNat_trailer_stampFrame (body : Bytes) :
    ubeNat ((stampFrame body).drop ((stampFrame body).length - 2)) = (crcBlock body).toNat := by
  simpa [stampFrame] using ubeNat_beBytes_of_lt (n := 2) (crcBlock body).isLt

/-- The message id bytes hold the message id (R174, R202). -/
theorem ofNat_ubeNat_msgIdBytes (i : Word) (rest : Bytes) :
    BitVec.ofNat 32 (ubeNat ((msgIdBytes (some i) ++ rest).take 4)) = i := by
  rw [List.take_left' (by simp [msgIdBytes]), msgIdBytes, ubeNat_beBytes_of_lt i.isLt]
  simp

section
variable {first c : Byte} {id : Option Word} {rc : Option Byte} {payload : Bytes}

theorem msgIdSize_eq_length (hid : hasMsgId first = id.isSome) : msgIdSize first = (msgIdBytes id).length := by
  rw [msgIdSize, hid, length_msgIdBytes]

/-- Steps 1 to 5 read the header of a stamped frame, and its CRC agrees (R201 to R205). -/
theorem parseHeader_stampFrame (hzero : first ≠ 0x00) (hflag : first ≠ 0x80) (hid : hasMsgId first = id.isSome)
    (hlen : tightened c = true → 2 ≤ payload.length) :
    parseHeader (stampFrame (frameBody first id c rc payload)) = .ok { first := first, msgId := id, opcode := c } := by
  have hsize := msgIdSize_eq_length hid
  have hbase := msgIdSize_add_four first
  have hlength : baseLength first + payload.length ≤ (stampFrame (frameBody first id c rc payload)).length := by
    simp only [stampFrame, frameBody, List.length_append, List.length_cons, beBytes_length]
    omega
  have hcode : (stampFrame (frameBody first id c rc payload))[1 + msgIdSize first]? = some c := by
    simp [stampFrame, frameBody, hsize, Nat.add_comm 1]
  rw [parseHeader_eq rfl hzero hflag (by omega) hcode, take_stampFrame, ubeNat_trailer_stampFrame, if_pos, hid]
  · cases id with
    | none => rfl
    | some i =>
      have hread := ofNat_ubeNat_msgIdBytes i
        (c :: rc.toList ++ payload ++ beBytes 2 (crcBlock (frameBody first (some i) c rc payload)).toNat)
      simpa [stampFrame, frameBody] using hread
  · simp
  · split
    case isTrue ht => exact (Nat.add_le_add_left (hlen ht) _).trans hlength
    case isFalse => omega

theorem requireLength_of_le {n bound : Nat} (h : bound ≤ n) : requireLength n bound = .ok () := if_neg (Nat.not_lt.mpr h)

/-- Step 6 reads the response code exactly where a frame has one (R206). -/
theorem respCode_stampFrame (hid : hasMsgId first = id.isSome) (hrc : rc.isSome = isResponse c) :
    respCode (stampFrame (frameBody first id c rc payload)) (msgIdSize first) c = .ok (rc, rc.toList.length) := by
  have hsize := msgIdSize_eq_length hid
  unfold respCode
  rw [← hrc]
  cases rc with
  | none => rfl
  | some b =>
    have hread : memRead (stampFrame (frameBody first id c (some b) payload)) (2 + msgIdSize first) 1 = .ok b.toNat :=
      memRead_byte (by simp [stampFrame, frameBody, hsize, Nat.add_comm 2])
    have hroom : 2 + msgIdSize first + 1 + 2 ≤ (stampFrame (frameBody first id c (some b) payload)).length := by
      simp only [stampFrame, frameBody, hsize, List.length_append, List.length_cons, beBytes_length, Option.toList_some]
      omega
    simp [requireLength_of_le hroom, hread, bind, Except.bind]

/-- Step 7 cuts the payload out of a stamped frame (R207). -/
theorem payloadOf_stampFrame (hid : hasMsgId first = id.isSome) :
    payloadOf (stampFrame (frameBody first id c rc payload)) (msgIdSize first) rc.toList.length = payload := by
  have hsize := msgIdSize_eq_length hid
  have hhead : 2 + msgIdSize first + rc.toList.length = (first :: msgIdBytes id ++ c :: rc.toList).length := by
    simp [hsize]
    omega
  rw [payloadOf, slice, ← List.drop_take, take_stampFrame, hhead, frameBody, List.drop_left]

/-- A stamped frame whose header is legal is decoded to what its payload decodes to, and a fault of the payload carries the
correlation fields of the header (R200, R209, R210). -/
theorem parseFrame_stampFrame (p : Params) (now : TimeStamp) (hzero : first ≠ 0x00) (hflag : first ≠ 0x80)
    (hid : hasMsgId first = id.isSome) (hrc : rc.isSome = isResponse c)
    (hlen : tightened c = true → 2 ≤ payload.length) :
    parseFrame p now (stampFrame (frameBody first id c rc payload)) =
      match decodePayload p now c payload with
      | .ok params => .ok (normalise { first := first, msgId := id, opcode := c } rc params)
      | .error k => .error (k, some { msgId := id, opcode := c }) := by
  have hbody : parseBody p now (stampFrame (frameBody first id c rc payload))
      { first := first, msgId := id, opcode := c } = (decodePayload p now c payload).map fun params => (rc, params) := by
    simp only [parseBody, headerIdSize, respCode_stampFrame hid hrc, bind, Except.bind, payloadOf_stampFrame hid]
    cases decodePayload p now c payload <;> rfl
  rw [parseFrame, parseHeader_stampFrame hzero hflag hid hlen]
  simp only [hbody]
  cases decodePayload p now c payload <;> rfl

end

/-- The first byte of a frame whose version is in range is legal, and says whether there is a message id (R173, R201,
R202). -/
theorem firstByte_legal {req : Request} (hlo : 1 ≤ req.rawVersion) (hhi : req.rawVersion ≤ 99) :
    firstByte req ≠ 0x00 ∧ firstByte req ≠ 0x80 ∧ hasMsgId (firstByte req) = req.id.isSome := by
  have hnum := toNat_firstByte hlo hhi
  rw [hasMsgId, versionFlag, Bool.eq_iff_iff, decide_eq_true_iff, Ne, Ne, ← BitVec.toNat_inj, ← BitVec.toNat_inj]
  show ¬(firstByte req).toNat = 0 ∧ ¬(firstByte req).toNat = 128 ∧ _
  split at hnum
  case isTrue hid => exact ⟨by omega, by omega, iff_of_true (by omega) hid⟩
  case isFalse hid => exact ⟨by omega, by omega, iff_of_false (by omega) hid⟩

/-- `PARSE` ends with the response a window parses to. -/
theorem exec_parse_completes {vt : BitVec 3} {s : State} {r : Response}
    (h : parseFrame s.params s.ports.now s.window = .ok r) :
    ∃ t, exec (.parse vt) s = .next t ∧ t.err.valid = false ∧ t.result = .response r :=
  ⟨_, (execParse_eq_run vt s).trans (by rw [h]), rfl, rfl⟩

/-! ### The bare READ request (R178, R180, R215) -/

/-- In the bare mode an id that is no combine id is the whole of a function point (R215). -/
theorem decodeFP_bare {p : Params} {inner : Nat → Bytes → Except ErrKind (List FunctionPoint)} {depth pos : Nat}
    {w : Bytes} {fid : Half} (hfid : readFid w pos = .ok fid) (hdata : fidDataTypeBits fid ≠ 0)
    (hcombine : (fieldsOf fid).resourceType ≠ .combine) :
    decodeFP p inner depth true w pos = .ok (.mk fid (fieldsOf fid) .Absent, pos + 2) := by
  simp [decodeFP, hfid, fidDec_of_ne hdata, bind, Except.bind, hcombine]

theorem readFid_pair (fid : Half) : readFid [fid.extractLsb' 8 8, fid.extractLsb' 0 8] 0 = .ok fid := by
  rw [← beBytes_half]
  have hread := memRead_beBytes_append (n := 2) [] (by decide) fid.isLt
  rw [List.append_nil] at hread
  simp [readFid, hread, Except.map]

/-- An id alone is a window of one function point, read in the bare mode. -/
theorem decodeWindow_bare (p : Params) {fid : Half} (hdata : fidDataTypeBits fid ≠ 0)
    (hcombine : (fieldsOf fid).resourceType ≠ .combine) :
    decodeWindow p true [fid.extractLsb' 8 8, fid.extractLsb' 0 8] = .ok [.mk fid (fieldsOf fid) .Absent] := by
  simp [decodeWindow, decodeFPList, decodeFP_bare (readFid_pair fid) hdata hcombine, bind, Except.bind]

/-- What `PKG` makes of a READ request of one plain entry: the operation code and the id, whatever the value is (R178,
R180). -/
theorem packageFrame_bareRead {p : Params} {req : Request} {fid : Half} {tag : Tag} {v : Value} (hlo : 1 ≤ req.rawVersion)
    (hhi : req.rawVersion ≤ 99) (hop : opByte p req = 0x01) (hgroup : req.groupId = none)
    (hparams : req.params = .cons (.plain fid tag v) .nil) :
    packageFrame p req =
      .ok (stampFrame (frameBody (firstByte req) req.id 0x01 none [fid.extractLsb' 8 8, fid.extractLsb' 0 8])) := by
  have hinner : encodeEntries (decide (opByte p req = 0x01)) req.params =
      .ok [fid.extractLsb' 8 8, fid.extractLsb' 0 8] := by
    rw [hop, hparams, encodeEntries_cons, encodeEntry_plain]
    rfl
  have hrequest : isResponse (opByte p req) = false := by
    rw [hop]
    decide
  rw [packageFrame_of_checks hlo hhi (by simp [hrequest]) (fun _ => by rw [hparams]; rfl) (by simp [hop]) hinner
    (by rw [hgroup]; rfl), frameCode, hrequest, hop]
  rfl

/-- Settles O54: the packager writes the id alone, and the parser reads an id alone as an absent value. -/
theorem bareReadComesBackAbsent : Obligations.BareReadComesBackAbsent := by
  intro vt vt' s req fid tag v hreq hlo hhi hop hgroup hparams hdata hcombine
  obtain ⟨t, hexec, h⟩ := exec_pkg_packages vt s
  rw [hreq, packageFrame_bareRead hlo hhi hop hgroup hparams] at h
  obtain ⟨hvalid, hobuf, -⟩ := h
  obtain ⟨hzero, hflag, hid⟩ := firstByte_legal hlo hhi
  have hparse := parseFrame_stampFrame (c := 0x01) (rc := none) (payload := [fid.extractLsb' 8 8, fid.extractLsb' 0 8])
    t.params t.ports.now hzero hflag hid rfl (fun _ => le_rfl)
  have htreatment : treatmentOf 0x01 = .deviceLevel true := by decide
  rw [decodePayload_of_deviceLevel htreatment, decodeWindow_bare _ hdata hcombine] at hparse
  have hwindow : (Memory.ofBytes t.obuf.bytes).bytes = _ := (ofBytes_bytes _).trans (by rw [hobuf, ofBytes_bytes])
  obtain ⟨u, hexec', hvalid', hresult⟩ := exec_parse_completes (vt := vt')
    (s := { t with ibuf := Memory.ofBytes t.obuf.bytes }) ((congrArg (parseFrame _ _) hwindow).trans hparse)
  exact ⟨t, u, _, hexec, hvalid, hexec', hvalid', hresult, rfl⟩

end Sys2Proof.Machine
end

section
/-! PROOFS. The nine steps of `PARSE` over any frame (spec/45_parser.md R200 to R210) and the first-byte rows. Steps 1 to 4
look at the shape of a frame (`WellShaped`) and step 5 at its CRC, so that a header is read exactly from a legal frame
(`parseHeader_eq_ok_iff`) and any other frame faults before a payload byte is looked at. -/

namespace Sys2Proof.Machine

open Sys2Proof

/-! ### How `PARSE` ends -/

/-- `t` is `s` after a `PARSE` that made this response, or met this fault. -/
def ParsedTo (s t : State) : Except (ErrKind × Option Correlation) Response → Prop
  | .ok r =>
    t.err.valid = false ∧ t.stepCtr = 9 ∧ t.depth = 0 ∧ ObufKept s t ∧ HostSideKept s t ∧ t.result = .response r
  | .error e => FaultedWith s t e.1 e.2

/-- `PARSE` ends as the parser says. -/
theorem exec_parse_ends (vt : BitVec 3) (s : State) :
    ∃ t, exec (.parse vt) s = .next t ∧ ParsedTo s t (parseFrame s.params s.ports.now s.window) := by
  refine ⟨_, execParse_eq_run vt s, ?_⟩
  cases parseFrame s.params s.ports.now s.window with
  | ok r => exact ⟨rfl, rfl, rfl, ObufKept.refl s, HostSideKept.of_eq rfl rfl rfl rfl, rfl⟩
  | error e => exact takeFault_spec e.1 e.2 s

/-- A state that `PARSE` answers is what the parser says. -/
theorem ParsedTo.of_next {vt : BitVec 3} {s t : State} (h : exec (.parse vt) s = .next t) :
    ParsedTo s t (parseFrame s.params s.ports.now s.window) := by
  obtain ⟨t', hexec, hend⟩ := exec_parse_ends vt s
  obtain rfl := Host.Outcome.next.inj (h.symm.trans hexec)
  exact hend

theorem exec_parse_faults {vt : BitVec 3} {s : State} {k : ErrKind} {corr : Option Correlation}
    (h : parseFrame s.params s.ports.now s.window = .error (k, corr)) :
    ∃ t, exec (.parse vt) s = .next t ∧ FaultedWith s t k corr := by
  obtain ⟨t, hexec, hend⟩ := exec_parse_ends vt s
  rw [h] at hend
  exact ⟨t, hexec, hend⟩

/-- A fault that `PARSE` has taken is one of the parser's. -/
theorem parseFrame_eq_error_of_valid {vt : BitVec 3} {s t : State} (h : exec (.parse vt) s = .next t)
    (hvalid : t.err.valid = true) :
    ∃ k corr, parseFrame s.params s.ports.now s.window = .error (k, corr) ∧ ErrorIs t.err k corr := by
  have hend := ParsedTo.of_next h
  cases hparse : parseFrame s.params s.ports.now s.window with
  | ok r =>
    rw [hparse] at hend
    exact absurd (hend.1.symm.trans hvalid) Bool.false_ne_true
  | error e =>
    rw [hparse] at hend
    exact ⟨e.1, e.2, rfl, hend.1⟩

/-- A fault of steps 1 to 5 carries no field (R210). -/
theorem parseFrame_of_header_error {p : Params} {now : TimeStamp} {frame : Bytes} {k : ErrKind}
    (h : parseHeader frame = .error k) : parseFrame p now frame = .error (k, none) := by simp [parseFrame, h]

/-- A fault of steps 6 to 8 carries the fields of the header (R210). -/
theorem parseFrame_of_body_error {p : Params} {now : TimeStamp} {frame : Bytes} {h : Header} {k : ErrKind}
    (hheader : parseHeader frame = .ok h) (hbody : parseBody p now frame h = .error k) :
    parseFrame p now frame = .error (k, some (correlationOf h)) := by simp [parseFrame, hheader, hbody]

/-- Past step 5 there is no fault without the fields of the header. -/
theorem parseFrame_eq_error_of_header {p : Params} {now : TimeStamp} {frame : Bytes} {h : Header} {k : ErrKind}
    {corr : Option Correlation} (hheader : parseHeader frame = .ok h) (herr : parseFrame p now frame = .error (k, corr)) :
    corr = some (correlationOf h) := by
  cases hbody : parseBody p now frame h with
  | ok r => simp [parseFrame, hheader, hbody] at herr
  | error e =>
    rw [parseFrame_of_body_error hheader hbody] at herr
    exact (congrArg Prod.snd (Except.error.inj herr)).symm

/-! ### The shape of a frame (R201 to R204) -/

theorem hasMsgId_iff {b0 : Byte} : hasMsgId b0 = true ↔ 128 < b0.toNat := decide_eq_true_iff

/-- The flag of a first byte, as the presence of a message id. -/
theorem hasMsgId_eq_isSome {b0 : Byte} {id : Option Word} (h : id.isSome = true ↔ 128 < b0.toNat) :
    hasMsgId b0 = id.isSome := Bool.eq_iff_iff.mpr (hasMsgId_iff.trans h.symm)

theorem baseLength_eq (b0 : Byte) : baseLength b0 = if 128 < b0.toNat then 8 else 4 := by
  simp only [baseLength, hasMsgId_iff]

/-- The operation code stands behind the first byte and the message id (R204). -/
theorem opcodeOffset_eq (b0 : Byte) : 1 + msgIdSize b0 = if 128 < b0.toNat then 5 else 1 := by
  simp only [msgIdSize, hasMsgId_iff]
  split <;> rfl

/-- The bytes of a frame pass steps 1 to 4, with this first byte and this operation code. -/
structure WellShaped (frame : Bytes) (b0 c : Byte) : Prop where
  first : frame[0]? = some b0
  ne_zero : b0 ≠ 0x00
  ne_flag : b0 ≠ 0x80
  base : baseLength b0 ≤ frame.length
  code : frame[1 + msgIdSize b0]? = some c
  room : (if tightened c = true then baseLength b0 + 2 else baseLength b0) ≤ frame.length

theorem four_le_baseLength (b0 : Byte) : 4 ≤ baseLength b0 := by
  rw [← msgIdSize_add_four]
  exact Nat.le_add_left 4 _

/-- A frame of legal shape is longer than a CRC. -/
theorem WellShaped.two_le {frame : Bytes} {b0 c : Byte} (h : WellShaped frame b0 c) : 2 ≤ frame.length :=
  (by decide : 2 ≤ 4).trans ((four_le_baseLength b0).trans h.base)

/-- The message id in a frame with this first byte, where there is one (R202). -/
def idField (frame : Bytes) (b0 : Byte) : Option Word :=
  if hasMsgId b0 = true then some (BitVec.ofNat 32 (ubeNat ((frame.drop 1).take 4))) else none

/-- Step 5 decides on a frame of legal shape: its last two bytes are the CRC of the others, or not (R205). -/
theorem WellShaped.parseHeader_eq {frame body : Bytes} {b0 c hi lo : Byte} (h : WellShaped frame b0 c)
    (hframe : frame = body ++ [hi, lo]) :
    parseHeader frame =
      if crcBlock body = hi ++ lo then .ok { first := b0, msgId := idField frame b0, opcode := c }
      else .error .integrityError := by
  have hlen : frame.length - 2 = body.length := by simp [hframe]
  have htrailer : BitVec.ofNat 16 (ubeNat (frame.drop (frame.length - 2))) = hi ++ lo := by
    rw [hlen, hframe, List.drop_left, ubeNat_pair, BitVec.ofNat_toNat, BitVec.setWidth_eq]
  have hbody : frame.take (frame.length - 2) = body := by rw [hlen, hframe, List.take_left]
  rw [Machine.parseHeader_eq h.first h.ne_zero h.ne_flag h.base h.code h.room, htrailer, hbody]
  rfl

theorem parseHeader_wellShaped {frame : Bytes} {h : Header} (hp : parseHeader frame = .ok h) :
    WellShaped frame h.first h.opcode := by
  obtain ⟨hfirst, hzero, hflag, hbase, hcode, hroom⟩ := parseHeader_eq_ok hp
  exact ⟨hfirst, hzero, hflag, hbase, hcode, hroom⟩

theorem requireLength_of_lt {n bound : Nat} (h : n < bound) : requireLength n bound = .error .malformedFrame := if_pos h

/-- Step 1 gives the first byte of a frame that has a legal one, and else refuses the frame (R201). -/
theorem shapeCheck_cases (frame : Bytes) :
    (∃ b0, shapeCheck frame = .ok b0 ∧ frame[0]? = some b0 ∧ b0 ≠ 0x00 ∧ b0 ≠ 0x80) ∨
      shapeCheck frame = .error .malformedFrame := by
  cases frame with
  | nil => exact .inr rfl
  | cons b0 rest =>
    by_cases h : b0 = 0x00 ∨ b0 = 0x80
    · exact .inr (if_pos h)
    · exact .inl ⟨b0, if_neg h, rfl, (not_or.mp h).1, (not_or.mp h).2⟩

/-- A frame of any other shape is refused in steps 1 to 4 (R201, R203). -/
theorem parseHeader_of_not_wellShaped {frame : Bytes} (h : ∀ b0 c, ¬WellShaped frame b0 c) :
    parseHeader frame = .error .malformedFrame := by
  obtain ⟨b0, hcheck, hfirst, hzero, hflag⟩ | hcheck := shapeCheck_cases frame
  · by_cases hbase : baseLength b0 ≤ frame.length
    · have hsize := msgIdSize_add_four b0
      have hcode : frame[1 + msgIdSize b0]? = some frame[1 + msgIdSize b0] := List.getElem?_eq_getElem (by omega)
      have hroom := fun hroom => h b0 _ ⟨hfirst, hzero, hflag, hbase, hcode, hroom⟩
      simp [parseHeader, hcheck, requireLength_of_le hbase, memRead_byte hcode,
        requireLength_of_lt (Nat.not_le.mp hroom), bind, Except.bind]
    · simp [parseHeader, hcheck, requireLength_of_lt (Nat.not_le.mp hbase), bind, Except.bind]
  · simp [parseHeader, hcheck, bind, Except.bind]

theorem exists_trailer {frame : Bytes} (h : 2 ≤ frame.length) :
    ∃ (body : Bytes) (hi lo : Byte), frame = body ++ [hi, lo] := by
  obtain ⟨hi, lo, htrailer⟩ := List.length_eq_two.mp
    (show (frame.drop (frame.length - 2)).length = 2 by rw [List.length_drop]; omega)
  exact ⟨frame.take (frame.length - 2), hi, lo, by rw [← htrailer, List.take_append_drop]⟩

/-- The two kinds of steps 1 to 5 (R201, R203, R205). -/
theorem parseHeader_error_kind {frame : Bytes} {k : ErrKind} (h : parseHeader frame = .error k) :
    k = .malformedFrame ∨ k = .integrityError := by
  by_cases hshape : ∃ b0 c, WellShaped frame b0 c
  · obtain ⟨b0, c, hshape⟩ := hshape
    obtain ⟨body, hi, lo, hframe⟩ := exists_trailer hshape.two_le
    rw [hshape.parseHeader_eq hframe] at h
    split at h
    case isTrue => cases h
    case isFalse => exact .inr (Except.error.inj h).symm
  · rw [parseHeader_of_not_wellShaped (by simpa using hshape)] at h
    exact .inl (Except.error.inj h).symm

/-- Settles O41: each of the conditions is one that steps 1 to 4 need, so the frame has no legal shape. -/
theorem parsingRefusesBadShape : Obligations.ParsingRefusesBadShape := by
  refine ⟨fun _ => tightened_iff, fun vt s hbad => exec_parse_faults (parseFrame_of_header_error ?_)⟩
  refine parseHeader_of_not_wellShaped fun b0 c hshape => ?_
  obtain ⟨hfirst, hzero, hflag, hbase, hcode, hroom⟩ := hshape
  rw [opcodeOffset_eq] at hcode
  rw [baseLength_eq] at hbase hroom
  cases hwindow : s.window with
  | nil => simp [hwindow] at hfirst
  | cons x rest =>
    simp only [hwindow] at *
    obtain rfl : x = b0 := by simpa using hfirst
    obtain h | h | h | ⟨c', hcode', htight, hshort⟩ := hbad
    · exact hzero h
    · exact hflag h
    · rw [List.length_cons] at hbase
      split_ifs at h hbase <;> omega
    · obtain rfl : c' = c := Option.some.inj (hcode'.symm.trans hcode)
      rw [if_pos htight, List.length_cons] at hroom
      split_ifs at hshort hroom <;> omega

/-- Settles O42: the frame passes steps 1 to 4, and step 5 fails before the payload is looked at. -/
theorem parsingRefusesWrongCrc : Obligations.ParsingRefusesWrongCrc := by
  intro vt s b0 c hi lo rest body hzero hflag hfirst hframe hcode hlen hcrc
  have hroom : (if tightened c = true then baseLength b0 + 2 else baseLength b0) ≤ s.window.length := by
    rw [baseLength_eq]
    split_ifs at hlen ⊢ <;> omega
  have hbase : baseLength b0 ≤ s.window.length := by
    rw [baseLength_eq]
    exact (Nat.le_add_right _ _).trans hlen
  have hshape : WellShaped s.window b0 c := ⟨by simp [hfirst], hzero, hflag, hbase, opcodeOffset_eq b0 ▸ hcode, hroom⟩
  exact exec_parse_faults (parseFrame_of_header_error ((hshape.parseHeader_eq hframe).trans (if_neg hcrc)))

/-! ### Corruption (R234) -/

/-- A change of one byte changes the CRC (R106). -/
theorem crcBlock_set_ne {body : Bytes} {i : Nat} {b : Byte} (hi : i < body.length) (hb : body[i]? ≠ some b) :
    crcBlock (body.set i b) ≠ crcBlock body := by
  have hne : b ≠ body[i] := fun h => hb (by rw [h, List.getElem?_eq_getElem hi])
  have hbody : body = body.take i ++ body[i] :: body.drop (i + 1) := by
    rw [← List.drop_eq_getElem_cons hi, List.take_append_drop]
  have hcrc := crcDetectsAnyByteChange (body.take i) (body.drop (i + 1)) b _ hne
  rw [← hbody] at hcrc
  rwa [List.set_eq_take_append_cons_drop, if_pos hi]

/-- A byte of the payload or behind it takes no part in steps 1 to 4. -/
theorem WellShaped.set {frame : Bytes} {b0 c b : Byte} {i : Nat} (h : WellShaped frame b0 c)
    (hi : 1 + msgIdSize b0 < i) : WellShaped (frame.set i b) b0 c where
  first := by rw [List.getElem?_set_ne (by omega), h.first]
  ne_zero := h.ne_zero
  ne_flag := h.ne_flag
  base := by rw [List.length_set]; exact h.base
  code := by rw [List.getElem?_set_ne (by omega), h.code]
  room := by rw [List.length_set]; exact h.room

/-- Settles O43: the changed frame has the shape and the trailer of the accepted one, and another CRC. -/
theorem payloadCorruptionIsDetected : Obligations.PayloadCorruptionIsDetected := by
  intro vt s t b0 c b rest i hexec hvalid hfirst hcode hlo hhi hb
  obtain ⟨h, hheader⟩ : ∃ h, parseHeader s.window = .ok h := by
    cases hheader : parseHeader s.window with
    | ok h => exact ⟨h, rfl⟩
    | error k =>
      have hend := ParsedTo.of_next hexec
      rw [parseFrame_of_header_error hheader] at hend
      exact absurd (hvalid.symm.trans hend.1.1) Bool.false_ne_true
  have hshape := parseHeader_wellShaped hheader
  obtain rfl : b0 = h.first := by simpa [hfirst] using hshape.first
  obtain ⟨body, hi, lo, hframe⟩ := exists_trailer hshape.two_le
  have hcrc : crcBlock body = hi ++ lo := by
    rw [hshape.parseHeader_eq hframe] at hheader
    by_contra hne
    rw [if_neg hne] at hheader
    cases hheader
  have hpayload : i < body.length := by
    rw [hframe, List.length_append, List.length_cons, List.length_singleton] at hhi
    omega
  have hset : s.window.set i b = body.set i b ++ [hi, lo] := by rw [hframe, List.set_append_left _ _ hpayload]
  have hchanged : body[i]? ≠ some b := by rwa [hframe, List.getElem?_append_left hpayload] at hb
  have hbehind : 1 + msgIdSize h.first < i := by
    rw [opcodeOffset_eq]
    split_ifs at hlo ⊢ <;> omega
  have hfault := ((hshape.set (b := b) hbehind).parseHeader_eq hset).trans
    (if_neg fun hnew => crcBlock_set_ne hpayload hchanged (hnew.trans hcrc.symm))
  refine exec_parse_faults (s := { s with ibuf := Memory.ofBytes (s.window.set i b) }) (parseFrame_of_header_error ?_)
  exact (congrArg parseHeader (ofBytes_bytes _)).trans hfault

/-! ### Legal frames (R210) -/

/-- The four bytes of a word, high byte first. -/
theorem beBytes_word (w : Word) :
    beBytes 4 w.toNat = [w.extractLsb' 24 8, w.extractLsb' 16 8, w.extractLsb' 8 8, w.extractLsb' 0 8] := by
  simp only [beBytes, List.cons.injEq, and_true]
  refine ⟨?_, ?_, ?_, ?_⟩ <;> apply BitVec.eq_of_toNat_eq <;> simp [Nat.shiftRight_eq_div_pow]

/-- The bytes of a message id field are those of the id it holds (R202). -/
theorem msgIdBytes_idField {frame : Bytes} {b0 : Byte} (h : baseLength b0 ≤ frame.length) :
    msgIdBytes (idField frame b0) = (frame.drop 1).take (msgIdSize b0) := by
  have hsize := msgIdSize_add_four b0
  unfold idField msgIdSize
  split
  case isTrue hid =>
    have hfour : msgIdSize b0 = 4 := if_pos hid
    have hlen : ((frame.drop 1).take 4).length = 4 := by simp; omega
    have hlt := ubeNat_lt ((frame.drop 1).take 4)
    rw [hlen] at hlt
    rw [msgIdBytes, BitVec.toNat_ofNat, Nat.mod_eq_of_lt (by omega)]
    simpa only [hlen] using beBytes_ubeNat ((frame.drop 1).take 4)
  case isFalse => rfl

theorem isSome_idField (frame : Bytes) (b0 : Byte) : (idField frame b0).isSome = hasMsgId b0 := by
  unfold idField
  split <;> simp_all

/-- A frame of legal shape, part by part. -/
theorem WellShaped.frame_eq {frame : Bytes} {b0 c : Byte} (h : WellShaped frame b0 c) :
    ∃ rest, frame = b0 :: msgIdBytes (idField frame b0) ++ c :: rest := by
  obtain ⟨hlt, hc⟩ := List.getElem?_eq_some_iff.mp h.code
  rw [msgIdBytes_idField h.base]
  obtain _ | ⟨x, rest⟩ := frame
  · cases h.first
  · obtain rfl : x = b0 := by simpa using h.first
    refine ⟨rest.drop (msgIdSize x + 1), ?_⟩
    have hcode : rest[msgIdSize x]'(by simpa [Nat.add_comm 1] using hlt) = c := by
      simpa [Nat.add_comm 1] using hc
    rw [List.drop_one, List.tail_cons, List.cons_append, ← hcode, ← List.drop_eq_getElem_cons, List.take_append_drop]

/-- The least length of a frame, from its first byte and its operation code (R203). -/
theorem minLength_eq (b0 c : Byte) :
    (if 128 < b0.toNat then 8 else 4) +
        (if c.toNat < 128 ∧ ¬(c.toNat / 64 % 2 = 0 ∧ c.toNat / 32 % 2 = 1) then 2 else 0) =
      if tightened c = true then baseLength b0 + 2 else baseLength b0 := by
  simp only [← tightened_iff, baseLength_eq]
  split_ifs <;> rfl

/-- The parts of a frame are read back from it. -/
theorem idField_frame {b0 c : Byte} {id : Option Word} (hid : hasMsgId b0 = id.isSome) (rest : Bytes) :
    idField (b0 :: msgIdBytes id ++ c :: rest) b0 = id := by
  unfold idField
  rw [hid]
  cases id with
  | none => rfl
  | some i => exact congrArg some (ofNat_ubeNat_msgIdBytes i (c :: rest))

/-- A legal frame, in the terms of the model. -/
theorem legalFrame_iff {frame : Bytes} {first c : Byte} {id : Option Word} :
    LegalFrame frame first id c ↔
      first ≠ 0x00 ∧ first ≠ 0x80 ∧ (id.isSome = true ↔ 128 < first.toNat) ∧
        (∃ rest, frame = first :: msgIdBytes id ++ c :: rest) ∧
        (if tightened c = true then baseLength first + 2 else baseLength first) ≤ frame.length ∧
        ∃ (body : Bytes) (hi lo : Byte), frame = body ++ [hi, lo] ∧ crcBlock body = hi ++ lo := by
  rw [← minLength_eq]
  cases id with
  | none => exact Iff.rfl
  | some i =>
    rw [msgIdBytes, beBytes_word]
    exact Iff.rfl

/-- Steps 1 to 5 pass exactly the legal frames, and read their parts (R201 to R205). -/
theorem parseHeader_eq_ok_iff {frame : Bytes} {first c : Byte} {id : Option Word} :
    parseHeader frame = .ok { first := first, msgId := id, opcode := c } ↔ LegalFrame frame first id c := by
  rw [legalFrame_iff]
  constructor
  · intro h
    have hshape := parseHeader_wellShaped h
    obtain ⟨body, hi, lo, hframe⟩ := exists_trailer hshape.two_le
    rw [hshape.parseHeader_eq hframe] at h
    split at h
    case isFalse => cases h
    case isTrue hcrc =>
      obtain rfl : idField frame first = id := congrArg Header.msgId (Except.ok.inj h)
      exact ⟨hshape.ne_zero, hshape.ne_flag, by rw [isSome_idField, hasMsgId_iff], hshape.frame_eq, hshape.room,
        body, hi, lo, hframe, hcrc⟩
  · rintro ⟨hzero, hflag, hid, ⟨rest, hrest⟩, hroom, body, hi, lo, hframe, hcrc⟩
    have hmsg := hasMsgId_eq_isSome hid
    have hsize := msgIdSize_eq_length hmsg
    have hshape : WellShaped frame first c :=
      { first := by rw [hrest]; rfl
        ne_zero := hzero
        ne_flag := hflag
        base := by split_ifs at hroom <;> omega
        code := by simp [hrest, hsize, Nat.add_comm 1]
        room := hroom }
    rw [hshape.parseHeader_eq hframe, if_pos hcrc, hrest, idField_frame hmsg]

/-- Settles O44: steps 1 to 5 pass exactly the legal frames, and a fault carries the fields exactly past them. -/
theorem parseFaultsCarryCorrelation : Obligations.ParseFaultsCarryCorrelation := by
  intro vt s t hexec hvalid
  obtain ⟨k, corr, hparse, herr⟩ := parseFrame_eq_error_of_valid hexec hvalid
  refine ⟨fun first c id hlegal => ?_, fun hillegal => ?_⟩
  · have hheader := parseHeader_eq_ok_iff.mpr hlegal
    obtain rfl := parseFrame_eq_error_of_header hheader hparse
    exact ⟨hheader, k, herr⟩
  · cases hheader : parseHeader s.window with
    | ok h => exact absurd (parseHeader_eq_ok_iff.mp hheader) (hillegal h.first h.opcode h.msgId)
    | error e =>
      rw [parseFrame_of_header_error hheader] at hparse
      obtain ⟨rfl, rfl⟩ := Prod.mk.inj (Except.error.inj hparse)
      exact ⟨e, rfl, parseHeader_error_kind hheader, herr⟩

/-! ### Stamped frames (R206 to R209) -/

/-- The bytes of a frame as the statements put them together. -/
theorem frameBody_eq {first c : Byte} {id : Option Word} {idBytes payload : Bytes} (rc : Option Byte)
    (h : match id with
      | none => idBytes = []
      | some i => idBytes = [i.extractLsb' 24 8, i.extractLsb' 16 8, i.extractLsb' 8 8, i.extractLsb' 0 8]) :
    first :: idBytes ++ c :: rc.toList ++ payload = frameBody first id c rc payload := by
  have hbytes : idBytes = msgIdBytes id := by
    cases id with
    | none => exact h
    | some i => exact h.trans (beBytes_word i).symm
  rw [hbytes, frameBody]

/-- Settles O40: the frame is taken apart into the parts it is stamped from, and the payload decides. -/
theorem parsingOfStampedFrame : Obligations.ParsingOfStampedFrame := by
  rintro vt s first c id code idBytes rc payload hzero hflag hid hbytes hcode rfl hlen hwindow
  obtain ⟨t, hexec, hend⟩ := exec_parse_ends vt s
  rw [hwindow, frameBody_eq code hbytes, parseFrame_stampFrame _ _ hzero hflag (hasMsgId_eq_isSome hid)
    (Bool.eq_iff_iff.mpr hcode) hlen] at hend
  refine ⟨t, hexec, ?_⟩
  have hversion : reportedVersion first = if 128 < first.toNat then first.toNat - 128 else first.toNat := by
    simp only [reportedVersion, hasMsgId_iff]
    rfl
  cases hpayload : decodePayload s.params s.ports.now c payload with
  | ok params =>
    rw [hpayload] at hend
    exact hversion ▸ hend
  | error k =>
    rw [hpayload] at hend
    exact hend

/-- Settles O46: the header of the frame is legal, and step 6 finds the CRC where the response code should be. -/
theorem responseWithoutCodeIsRefused : Obligations.ResponseWithoutCodeIsRefused := by
  intro vt s first c id idBytes hzero hflag hid hbytes hresponse hwindow
  have hmsg := hasMsgId_eq_isSome hid
  have hframe : first :: idBytes ++ [c] = frameBody first id c none [] := by
    rw [← frameBody_eq none hbytes]
    simp
  have hlen : tightened c = true → 2 ≤ ([] : Bytes).length := by simp [tightened, hresponse]
  have hheader := parseHeader_stampFrame (rc := none) hzero hflag hmsg hlen
  have hsize := msgIdSize_eq_length hmsg
  have hroom : (stampFrame (frameBody first id c none [])).length < 2 + msgIdSize first + 1 + 2 := by
    simp only [stampFrame, frameBody, hsize, List.length_append, List.length_cons, beBytes_length, Option.toList_none,
      List.length_nil]
    omega
  refine exec_parse_faults ?_
  rw [hwindow, hframe]
  refine parseFrame_of_body_error hheader ?_
  simp [parseBody, respCode, headerIdSize, hresponse, requireLength_of_lt hroom, bind, Except.bind]

/-! ### The first-byte rows (R64, R201, R202) -/

/-- The flag stands above the version. -/
theorem toNat_versionByte (flag : BitVec 1) (rawVersion : BitVec 7) :
    (flag ++ rawVersion : Byte).toNat = flag.toNat * 128 + rawVersion.toNat := toNat_append_eq_add flag rawVersion

/-- A row that carries a version is legal as a first byte, and delivers the flag and the version of its byte. -/
theorem readVersion_row {flag : BitVec 1} {rawVersion : BitVec 7} (hwf : rawVersion ≠ 0) (s : State) :
    ∃ t, readVersion (flag == 1#1) rawVersion s = .next t ∧
      if (flag ++ rawVersion : Byte) = 0x00 ∨ (flag ++ rawVersion : Byte) = 0x80 then FaultedWith s t .malformedFrame none
      else DeliveredWith s t
        (.version (decide (128 < (flag ++ rawVersion : Byte).toNat))
          (if 128 < (flag ++ rawVersion : Byte).toNat then (flag ++ rawVersion : Byte).toNat - 128
            else (flag ++ rawVersion : Byte).toNat)) := by
  have hnum := toNat_versionByte flag rawVersion
  have hlt := rawVersion.isLt
  have hpos : rawVersion.toNat ≠ 0 := fun h => hwf (BitVec.eq_of_toNat_eq h)
  have hlegal : ¬((flag ++ rawVersion : Byte) = 0x00 ∨ (flag ++ rawVersion : Byte) = 0x80) := by
    rintro (h | h)
    · have hzero : (flag ++ rawVersion : Byte).toNat = 0 := congrArg BitVec.toNat h
      omega
    · have honly : (flag ++ rawVersion : Byte).toNat = 128 := congrArg BitVec.toNat h
      omega
  refine ⟨_, rfl, ?_⟩
  rw [if_neg hlegal, hnum]
  obtain rfl | rfl := (by decide : ∀ flag : BitVec 1, flag = 0#1 ∨ flag = 1#1) flag
  · have hle : ¬128 < (0#1).toNat * 128 + rawVersion.toNat := by simp; omega
    rw [decide_eq_false hle, if_neg hle]
    simpa using deliver_spec (.version false rawVersion.toNat) s
  · have hgt : 128 < (1#1).toNat * 128 + rawVersion.toNat := by simp; omega
    rw [decide_eq_true hgt, if_pos hgt]
    simpa using deliver_spec (.version true rawVersion.toNat) s

/-- Settles O59: the two illegal bytes are evaluated, and any other byte is a flag and a version. -/
theorem firstByteRowsRead : Obligations.FirstByteRowsRead := by
  intro i s hf hwf
  cases i with
  | verIllegal00 | verIllegal80 => exact ⟨_, _, rfl, rfl, takeFault_spec .malformedFrame none s⟩
  | verNoMsgId rawVersion =>
    obtain ⟨t, hexec, hend⟩ := readVersion_row (flag := 0#1) (of_decide_eq_true hwf) s
    exact ⟨t, _, rfl, hexec, hend⟩
  | verWithMsgId rawVersion =>
    obtain ⟨t, hexec, hend⟩ := readVersion_row (flag := 1#1) (of_decide_eq_true hwf) s
    exact ⟨t, _, rfl, hexec, hend⟩
  | _ => cases hf

end Sys2Proof.Machine
end

section
/-! PROOFS. The function-point list decoder (spec/45_parser.md R211 to R218). What a window decodes to depends neither on where
it stands nor on the fuel, and one level of nesting down is one level less of `MAX_DEPTH`; so a window that is not empty is a
function point and the list of the bytes behind it (`decodeWindow_of_ne_nil`), whatever stands around it. -/

namespace Sys2Proof.Machine

open Sys2Proof

/-! ### A window cut at an offset -/

section
variable {w : Bytes} {pos : Nat} (h : pos ≤ w.length) (a : Nat)
include h

theorem memReadBytes_drop (n : Nat) : memReadBytes w (pos + a) n = memReadBytes (w.drop pos) a n := by
  have hiff : pos + a + n ≤ w.length ↔ a + n ≤ w.length - pos := by omega
  simp only [memReadBytes, List.length_drop, List.drop_drop, hiff]

theorem memRead_drop (n : Nat) : memRead w (pos + a) n = memRead (w.drop pos) a n := by
  simp only [memRead, memReadBytes_drop h]

theorem readFid_drop : readFid w (pos + a) = readFid (w.drop pos) a := by simp only [readFid, memRead_drop h]

theorem vlpDec_drop : vlpDec w (pos + a) = vlpDec (w.drop pos) a := by simp only [vlpDec, memRead_drop h]

theorem decodeRun_drop : decodeRun w (pos + a) = decodeRun (w.drop pos) a := by
  simp only [decodeRun, vlpDec_drop h, Nat.add_assoc, memReadBytes_drop h]

theorem valDec_drop (tag : Tag) : valDec tag w (pos + a) = valDec tag (w.drop pos) a := by
  cases tag with
  | boolean => simp only [valDec, decBoolean, memRead_drop h]
  | enum => simp only [valDec, decEnum, memRead_drop h]
  | integer => simp only [valDec, decInteger, memRead_drop h]
  | float => simp only [valDec, decFloat, memRead_drop h]
  | exception => simp only [valDec, decException, memRead_drop h]
  | buffer => simp only [valDec, decBuffer, decodeRun_drop h]
  | string => simp only [valDec, decString, decodeRun_drop h]
  | json => simp only [valDec, decJson, decodeRun_drop h]

end

/-- The two bytes of an id at an offset are read as the id (R212). -/
theorem readFid_of_drop {w rest : Bytes} {pos : Nat} {hi lo : Byte} (h : w.drop pos = hi :: lo :: rest) :
    readFid w pos = .ok (hi ++ lo) := by
  have hread : memRead w pos 2 = .ok (ubeNat [hi, lo]) := memRead_of_drop (bs := [hi, lo]) h (Nat.succ_pos 1)
  rw [readFid, hread, ubeNat_pair]
  simp [Except.map]

/-- Fewer than two bytes at an offset are a truncated id (R218). -/
theorem readFid_of_short {w : Bytes} {pos : Nat} (h : (w.drop pos).length < 2) :
    readFid w pos = .error .malformedFrame := by simp [readFid, memRead_of_short h, Except.map]

/-! ### One function point (R212, R213, R215) -/

/-- The parameters one level of nesting down: one level less of `MAX_DEPTH`. -/
def deeper (p : Params) : Params := { p with maxDepth := p.maxDepth.map (· - 1) }

section
variable {p : Params} {inner : Nat → Bytes → Except ErrKind (List FunctionPoint)} {depth : Nat} {bare : Bool} {hi lo : Byte}
  {rest : Bytes}

/-- R217: the data type bits are looked at before anything else is read. -/
theorem decodeFP_of_zero (hdata : fidDataTypeBits (hi ++ lo) = 0) :
    decodeFP p inner depth bare (hi :: lo :: rest) 0 = .error .unknownDataType := by
  simp [decodeFP, readFid_of_drop (w := hi :: lo :: rest) (pos := 0) rfl, fidDec_of_zero hdata, bind, Except.bind]

/-- R213, R214: a combine id, its length word, the window that counts, and the level it needs. -/
theorem decodeFP_of_combine (hdata : fidDataTypeBits (hi ++ lo) ≠ 0)
    (hcombine : (fieldsOf (hi ++ lo)).resourceType = .combine) :
    decodeFP p inner depth bare (hi :: lo :: rest) 0 = vlpDec rest 0 >>= fun r =>
      if rest.length < r.2 + r.1 ∨ depthAllowed p (depth + 1) = false then .error .malformedFrame
      else (inner (depth + 1) ((rest.drop r.2).take r.1)).map fun fps =>
        (.mk (hi ++ lo) (fieldsOf (hi ++ lo)) (.G (pointsOfList fps) false), r.2 + r.1 + 2) := by
  have htwo : 2 ≤ (hi :: lo :: rest).length := by simp
  have hprefix : vlpDec (hi :: lo :: rest) (0 + 2) = vlpDec rest 0 := vlpDec_drop htwo 0
  have hbody (k len : Nat) : memReadBytes (hi :: lo :: rest) (0 + 2 + k) len = memReadBytes rest k len :=
    memReadBytes_drop htwo k len
  simp only [decodeFP, readFid_of_drop (w := hi :: lo :: rest) (pos := 0) rfl, fidDec_of_ne hdata, hcombine, if_true,
    hprefix, hbody, bind, Except.bind]
  cases vlpDec rest 0 with
  | error k => rfl
  | ok r =>
    dsimp only
    by_cases hfit : rest.length < r.2 + r.1
    · rw [memReadBytes_eq_error.mpr ⟨hfit, rfl⟩, if_pos (.inl hfit)]
    · rw [memReadBytes_eq_ok.mpr ⟨Nat.not_lt.mp hfit, rfl⟩]
      cases depthAllowed p (depth + 1) with
      | false => simp
      | true =>
        simp only [hfit, if_true, false_or, Bool.true_eq_false, if_false]
        cases inner (depth + 1) ((rest.drop r.2).take r.1) with
        | error k => rfl
        | ok fps => simp [Except.map]; omega

/-- R212: the value of the selected transcoder. -/
theorem decodeFP_of_value (hdata : fidDataTypeBits (hi ++ lo) ≠ 0)
    (hcombine : (fieldsOf (hi ++ lo)).resourceType ≠ .combine) :
    decodeFP p inner depth false (hi :: lo :: rest) 0 = valSel p (hi ++ lo) >>= fun tag =>
      (valDec tag rest 0).map fun r => (.mk (hi ++ lo) (fieldsOf (hi ++ lo)) r.1, r.2 + 2) := by
  have hvalue (tag : Tag) : valDec tag (hi :: lo :: rest) (0 + 2) = valDec tag rest 0 :=
    valDec_drop (pos := 2) (by simp) 0 tag
  simp only [decodeFP, readFid_of_drop (w := hi :: lo :: rest) (pos := 0) rfl, fidDec_of_ne hdata, hcombine, if_false,
    hvalue, bind, Except.bind]
  cases valSel p (hi ++ lo) with
  | error k => rfl
  | ok tag =>
    dsimp only
    cases valDec tag rest 0 with
    | error k => rfl
    | ok r => simp [Except.map]; omega

end

/-- Mapping over a chain of checks is mapping over its last part. -/
theorem Except.map_bind {ε α β γ : Type} (g : β → γ) (x : Except ε α) (f : α → Except ε β) :
    (x >>= f).map g = x >>= fun a => (f a).map g := by cases x <;> rfl

/-- A function point is what its bytes are, wherever they stand: every read it makes is one of the window from there on. -/
theorem decodeFP_drop {p : Params} {inner : Nat → Bytes → Except ErrKind (List FunctionPoint)} {depth : Nat} {bare : Bool}
    {w : Bytes} {pos : Nat} (h : pos ≤ w.length) :
    decodeFP p inner depth bare w pos =
      (decodeFP p inner depth bare (w.drop pos) 0).map fun r => (r.1, pos + r.2) := by
  have hfid : readFid w pos = readFid (w.drop pos) 0 := readFid_drop h 0
  simp only [decodeFP, Except.map_bind, apply_ite (Except.map _), hfid, Nat.add_assoc, Nat.zero_add, vlpDec_drop h,
    memReadBytes_drop h, valDec_drop h]
  rfl

/-! ### The list (R211) -/

section
variable {p : Params} {bare : Bool}

theorem decodeFPList_drop (fuel depth : Nat) (w : Bytes) (pos : Nat) :
    decodeFPList p bare fuel depth w pos = decodeFPList p bare fuel depth (w.drop pos) 0 := by
  induction fuel generalizing w pos with
  | zero => simp [decodeFPList]
  | succ fuel ih =>
    simp only [decodeFPList, List.length_drop, Nat.sub_pos_iff_lt]
    split
    case isFalse => rfl
    case isTrue hlt =>
      rw [decodeFP_drop hlt.le]
      cases decodeFP p _ depth bare (w.drop pos) 0 with
      | error k => rfl
      | ok r =>
        show (decodeFPList p bare fuel depth w (pos + r.2) >>= _) = (decodeFPList p bare fuel depth (w.drop pos) r.2 >>= _)
        rw [ih w, ih (w.drop pos), List.drop_drop]

/-- Any two amounts of fuel that cover the window do the same (R293). -/
theorem decodeFPList_fuel_irrelevant {fuel fuel' : Nat} (depth : Nat) {w : Bytes} (h : w.length ≤ fuel)
    (h' : w.length ≤ fuel') : decodeFPList p bare fuel depth w 0 = decodeFPList p bare fuel' depth w 0 := by
  induction fuel generalizing fuel' depth w with
  | zero =>
    obtain rfl := List.eq_nil_of_length_eq_zero (Nat.le_zero.mp h)
    cases fuel' <;> rfl
  | succ fuel ih =>
    cases fuel' with
    | zero =>
      obtain rfl := List.eq_nil_of_length_eq_zero (Nat.le_zero.mp h')
      rfl
    | succ fuel' =>
      have hinner : decodeFP p (fun d body => decodeFPList p bare fuel d body 0) depth bare w 0 =
          decodeFP p (fun d body => decodeFPList p bare fuel' d body 0) depth bare w 0 :=
        decodeFP_congr fun d body hbody => ih d (by omega) (by omega)
      simp only [decodeFPList, hinner]
      split
      case isFalse => rfl
      case isTrue =>
        cases hfp : decodeFP p (fun d body => decodeFPList p bare fuel' d body 0) depth bare w 0 with
        | error k => rfl
        | ok r =>
          have hnext := decodeFP_advances hfp
          have hrest : decodeFPList p bare fuel depth w r.2 = decodeFPList p bare fuel' depth w r.2 := by
            rw [decodeFPList_drop fuel, decodeFPList_drop fuel']
            exact ih depth (by rw [List.length_drop]; omega) (by rw [List.length_drop]; omega)
          simp only [bind, Except.bind, hrest]

/-- One level down there is one level less of `MAX_DEPTH` (R214). -/
theorem depthAllowed_deeper (d : Nat) : depthAllowed (deeper p) (d + 1) = depthAllowed p (d + 2) := by
  unfold depthAllowed deeper
  cases p.maxDepth with
  | none => rfl
  | some m =>
    simp only [Option.map_some, decide_eq_decide]
    omega

theorem decodeFPList_deeper (fuel depth : Nat) (w : Bytes) (pos : Nat) :
    decodeFPList p bare fuel (depth + 1) w pos = decodeFPList (deeper p) bare fuel depth w pos := by
  induction fuel generalizing depth w pos with
  | zero => rfl
  | succ fuel ih =>
    have hinner : decodeFP p (fun d body => decodeFPList p bare fuel d body 0) (depth + 1) bare w pos =
        decodeFP (deeper p) (fun d body => decodeFPList (deeper p) bare fuel d body 0) depth bare w pos := by
      simp only [decodeFP, depthAllowed_deeper, ih]
      rfl
    simp only [decodeFPList, hinner, ih]

/-- A window that is not empty is a function point, with its groups read one level down, and the list behind it. -/
theorem decodeWindow_of_ne_nil {w : Bytes} (hw : w ≠ []) :
    decodeWindow p bare w = decodeFP p (fun _ body => decodeWindow (deeper p) bare body) 0 bare w 0 >>= fun r =>
      (decodeWindow p bare (w.drop r.2)).map (r.1 :: ·) := by
  obtain ⟨n, hn⟩ := Nat.exists_eq_succ_of_ne_zero (mt List.eq_nil_of_length_eq_zero hw)
  have hfp : decodeFP p (fun d body => decodeFPList p bare n d body 0) 0 bare w 0 =
      decodeFP p (fun d body => decodeFPList p bare body.length d body 0) 0 bare w 0 :=
    decodeFP_congr fun d body hbody => decodeFPList_fuel_irrelevant d (by omega) le_rfl
  have hinner : decodeFP p (fun d body => decodeFPList p bare body.length d body 0) 0 bare w 0 =
      decodeFP p (fun _ body => decodeWindow (deeper p) bare body) 0 bare w 0 := by
    have hlevel : (fun body : Bytes => decodeFPList p bare body.length (0 + 1) body 0) =
        fun body => decodeWindow (deeper p) bare body := funext fun body => decodeFPList_deeper _ 0 body 0
    exact congrArg (fun f => decodeFP p (fun _ => f) 0 bare w 0) hlevel
  rw [decodeWindow, hn, decodeFPList, if_pos (by omega), hfp, hinner]
  cases hpoint : decodeFP p (fun _ body => decodeWindow (deeper p) bare body) 0 bare w 0 with
  | error k => rfl
  | ok r =>
    have hnext := decodeFP_advances hpoint
    have hrest : decodeFPList p bare n 0 w r.2 = decodeWindow p bare (w.drop r.2) := by
      rw [decodeFPList_drop]
      exact decodeFPList_fuel_irrelevant 0 (by rw [List.length_drop]; omega) le_rfl
    simp only [bind, Except.bind, hrest]
    cases decodeWindow p bare (w.drop r.2) <;> rfl

theorem decodeWindow_nil : decodeWindow p bare [] = .ok [] := rfl

/-- One byte left over is a truncated id (R211, R218). -/
theorem decodeWindow_singleton (b : Byte) : decodeWindow p bare [b] = .error .malformedFrame := by
  rw [decodeWindow_of_ne_nil (List.cons_ne_nil _ _), decodeFP, readFid_of_short (by simp)]
  rfl

end

theorem depthAllowed_one_iff {p : Params} : depthAllowed p (0 + 1) = false ↔ p.maxDepth = some 0 := by
  unfold depthAllowed
  cases p.maxDepth with
  | none => simp
  | some m => simp

theorem fidDataTypeBits_append_eq_zero_iff_lt {hi lo : Byte} : fidDataTypeBits (hi ++ lo) = 0 ↔ hi.toNat < 32 := by
  rw [fidDataTypeBits_append_eq_zero_iff]
  omega

/-- Settles O47: the first function point is read by its kind, and the list goes on behind it. -/
theorem listDecoderFollowsTheWire : Obligations.ListDecoderFollowsTheWire := by
  intro p bare
  refine ⟨decodeWindow_nil, decodeWindow_singleton, fun hi lo rest => ?_⟩
  rw [decodeWindow_of_ne_nil (List.cons_ne_nil _ _)]
  by_cases hdata : fidDataTypeBits (hi ++ lo) = 0
  · rw [if_pos (fidDataTypeBits_append_eq_zero_iff_lt.mp hdata), decodeFP_of_zero hdata]
    rfl
  rw [if_neg (mt fidDataTypeBits_append_eq_zero_iff_lt.mpr hdata)]
  by_cases hcombine : (fieldsOf (hi ++ lo)).resourceType = .combine
  · rw [if_pos hcombine, decodeFP_of_combine hdata hcombine]
    simp only [depthAllowed_one_iff]
    cases hprefix : vlpDec rest 0 with
    | error k =>
      obtain rfl := vlpDec_error_kind hprefix
      rfl
    | ok r =>
      simp only [bind, Except.bind]
      split_ifs
      · rfl
      · show _ = match decodeWindow (deeper p) bare _ with | .error e => _ | .ok inner => _
        cases decodeWindow (deeper p) bare ((rest.drop r.2).take r.1) <;> rfl
  rw [if_neg hcombine]
  cases bare with
  | true =>
    have hfid := readFid_of_drop (w := hi :: lo :: rest) (pos := 0) rfl
    rw [decodeFP_bare hfid hdata hcombine]
    rfl
  | false =>
    rw [decodeFP_of_value hdata hcombine]
    cases valSel p (hi ++ lo) with
    | error k => rfl
    | ok tag =>
      simp only [bind, Except.bind]
      cases valDec tag rest 0 <;> rfl

end Sys2Proof.Machine
end

section
/-! PROOFS. What the decoders of the payload cannot do (spec/45_parser.md): a limit on nesting changes nothing but to cut off
what is nested too deep (R214), and no kind of the encoders is raised (R235). -/

namespace Sys2Proof.Machine

open Sys2Proof

/-! ### The limit on nesting (R214) -/

/-- The second result is the first with a limit on what is admissible: an admissible result is kept, any other is refused,
and a fault stays, or the refusal comes before it. -/
def LimitedTo {α : Type} (P : α → Prop) (full limited : Except ErrKind α) : Prop :=
  match full with
  | .ok a => (P a → limited = .ok a) ∧ (¬P a → limited = .error .malformedFrame)
  | .error k => limited = .error k ∨ limited = .error .malformedFrame

section
variable {α β : Type} {P : α → Prop} {Q : β → Prop}

theorem LimitedTo.rfl_of_all {x : Except ErrKind α} (h : ∀ a, x = .ok a → P a) : LimitedTo P x x := by
  cases x with
  | ok a => exact ⟨fun _ => rfl, fun hn => absurd (h a rfl) hn⟩
  | error k => exact .inl rfl

theorem LimitedTo.refuse_of_none {x : Except ErrKind α} (h : ∀ a, x = .ok a → ¬P a) :
    LimitedTo P x (.error .malformedFrame) := by
  cases x with
  | ok a => exact ⟨fun hp => absurd hp (h a rfl), fun _ => rfl⟩
  | error k => exact .inr rfl

/-- A limit on a part and a limit on the rest are a limit on the whole. -/
theorem LimitedTo.bind {x x' : Except ErrKind α} {f f' : α → Except ErrKind β} (hx : LimitedTo P x x')
    (hf : ∀ a, x = .ok a → P a → LimitedTo Q (f a) (f' a)) (hnot : ∀ a b, f a = .ok b → ¬P a → ¬Q b) :
    LimitedTo Q (x >>= f) (x' >>= f') := by
  cases x with
  | error k =>
    obtain rfl | rfl := hx
    · exact .inl rfl
    · exact .inr rfl
  | ok a =>
    obtain ⟨hkeep, hrefuse⟩ := hx
    by_cases ha : P a
    · rw [hkeep ha]
      exact hf a rfl ha
    · rw [hrefuse ha]
      exact LimitedTo.refuse_of_none fun b hb => hnot a b hb ha

theorem LimitedTo.map {x x' : Except ErrKind α} {g : α → β} (hx : LimitedTo P x x') (hg : ∀ a, P a ↔ Q (g a)) :
    LimitedTo Q (x.map g) (x'.map g) := by
  cases x with
  | error k =>
    obtain rfl | rfl := hx
    · exact .inl rfl
    · exact .inr rfl
  | ok a =>
    obtain ⟨hkeep, hrefuse⟩ := hx
    exact ⟨fun hq => by rw [hkeep ((hg a).mpr hq)]; rfl, fun hq => by rw [hrefuse (mt (hg a).mp hq)]; rfl⟩

end

/-- No function point of the list nests deeper than `m`. -/
def NestsWithin (m : Nat) (fps : List FunctionPoint) : Prop := ∀ fp ∈ fps, pointDepth fp ≤ m

theorem nestsWithin_cons {m : Nat} {fp : FunctionPoint} {fps : List FunctionPoint} :
    NestsWithin m (fp :: fps) ↔ pointDepth fp ≤ m ∧ NestsWithin m fps := List.forall_mem_cons

/-- A group nests one level deeper than its members. -/
theorem pointsDepth_le_iff {m : Nat} {fps : List FunctionPoint} :
    pointsDepth (pointsOfList fps) ≤ m ↔ NestsWithin m fps := by
  induction fps with
  | nil => simp [pointsOfList, pointsDepth, NestsWithin]
  | cons fp fps ih => rw [nestsWithin_cons, ← ih, pointsOfList, pointsDepth, max_le_iff]

/-- No transcoder gives a group. -/
theorem valueDepth_of_valDec {tag : Tag} {w : Bytes} {pos k : Nat} {v : Value} (h : valDec tag w pos = .ok (v, k)) :
    valueDepth v = 0 := by
  cases tag with
  | boolean =>
    simp only [valDec, decBoolean] at h
    split at h
    · cases h
    · split at h <;> cases h
      rfl
  | json =>
    simp only [valDec, decJson] at h
    split at h
    · cases h
    · split at h <;> cases h
      rfl
  | enum | integer | float | exception | buffer | string =>
    obtain ⟨_, -, hv⟩ := Except.map_eq_ok_iff.mp h
    obtain rfl := congrArg Prod.fst hv
    rfl

/-- The parameters with another limit on nesting. -/
def withMaxDepth (p : Params) (m : Option Nat) : Params := { p with maxDepth := m }

section
variable {p : Params} {bare : Bool}

/-- A function point under a limit, when its members are limited to one level less. -/
theorem decodeFP_limitedTo {m : Nat} {inner inner' : Bytes → Except ErrKind (List FunctionPoint)} {hi lo : Byte}
    {rest : Bytes}
    (hinner : ∀ n body, m = n + 1 → body.length ≤ rest.length → LimitedTo (NestsWithin n) (inner body) (inner' body)) :
    LimitedTo (fun r => pointDepth r.1 ≤ m)
      (decodeFP (withMaxDepth p none) (fun _ => inner) 0 bare (hi :: lo :: rest) 0)
      (decodeFP (withMaxDepth p (some m)) (fun _ => inner') 0 bare (hi :: lo :: rest) 0) := by
  by_cases hdata : fidDataTypeBits (hi ++ lo) = 0
  · rw [decodeFP_of_zero hdata, decodeFP_of_zero hdata]
    exact .inl rfl
  by_cases hcombine : (fieldsOf (hi ++ lo)).resourceType = .combine
  · rw [decodeFP_of_combine hdata hcombine, decodeFP_of_combine hdata hcombine]
    refine LimitedTo.bind (P := fun _ => True) (LimitedTo.rfl_of_all fun _ _ => trivial) (fun r _ _ => ?_)
      fun _ _ _ h => absurd trivial h
    simp only [depthAllowed_one_iff, withMaxDepth, reduceCtorEq, or_false, Option.some.injEq]
    by_cases hfit : rest.length < r.2 + r.1
    · simp only [hfit, true_or, if_true]
      exact .inl rfl
    simp only [hfit, false_or, if_false]
    cases m with
    | zero =>
      rw [if_pos rfl]
      refine LimitedTo.refuse_of_none fun a ha => ?_
      obtain ⟨fps, -, rfl⟩ := Except.map_eq_ok_iff.mp ha
      simp [pointDepth, valueDepth]
    | succ n =>
      rw [if_neg (Nat.succ_ne_zero n)]
      refine (hinner n _ rfl ?_).map fun fps => ?_
      · rw [List.length_take, List.length_drop]
        omega
      · rw [pointDepth, valueDepth, ← pointsDepth_le_iff]
        omega
  cases bare with
  | true =>
    have hfid := readFid_of_drop (w := hi :: lo :: rest) (pos := 0) rfl
    rw [decodeFP_bare hfid hdata hcombine, decodeFP_bare hfid hdata hcombine]
    exact ⟨fun _ => rfl, fun h => absurd (Nat.zero_le m) h⟩
  | false =>
    rw [decodeFP_of_value hdata hcombine, decodeFP_of_value hdata hcombine]
    refine LimitedTo.rfl_of_all fun a ha => ?_
    obtain ⟨tag, -, ha⟩ := Except.bind_eq_ok_iff.mp ha
    obtain ⟨r, hr, rfl⟩ := Except.map_eq_ok_iff.mp ha
    exact (valueDepth_of_valDec hr).trans_le (Nat.zero_le m)

/-- A window under a limit: by the number of its bytes, since a nested window and the rest of a window are shorter. -/
theorem decodeWindow_limitedTo (n m : Nat) {w : Bytes} (hw : w.length ≤ n) :
    LimitedTo (NestsWithin m) (decodeWindow (withMaxDepth p none) bare w)
      (decodeWindow (withMaxDepth p (some m)) bare w) := by
  induction n generalizing m w with
  | zero =>
    obtain rfl := List.eq_nil_of_length_eq_zero (Nat.le_zero.mp hw)
    exact LimitedTo.rfl_of_all (x := .ok []) fun fps h => by cases h; simp [NestsWithin]
  | succ n ih =>
    match w, hw with
    | [], _ => exact LimitedTo.rfl_of_all (x := .ok []) fun fps h => by cases h; simp [NestsWithin]
    | [b], _ =>
      rw [decodeWindow_singleton, decodeWindow_singleton]
      exact .inl rfl
    | hi :: lo :: rest, hw =>
      have hrest : rest.length ≤ n := by simp only [List.length_cons] at hw; omega
      rw [decodeWindow_of_ne_nil (List.cons_ne_nil _ _), decodeWindow_of_ne_nil (List.cons_ne_nil _ _)]
      refine LimitedTo.bind (P := fun r => pointDepth r.1 ≤ m) ?point (fun r hr hdepth => ?rest)
        fun r fps hfps hdepth => ?deep
      case point =>
        refine decodeFP_limitedTo fun k body hk hbody => ?_
        obtain rfl := hk
        exact ih k (hbody.trans hrest)
      case rest =>
        have hnext := decodeFP_advances hr
        refine (ih m ?_).map fun fps => by rw [nestsWithin_cons, and_iff_right hdepth]
        rw [List.length_drop]
        omega
      case deep =>
        obtain ⟨tail, -, rfl⟩ := Except.map_eq_ok_iff.mp hfps
        exact fun h => hdepth (nestsWithin_cons.mp h).1

end

/-- Settles O48: the limited decode is the unlimited one cut off at the limit, so what it accepts is within the limit. -/
theorem nestingStaysWithinMaxDepth : Obligations.NestingStaysWithinMaxDepth := by
  intro p m bare w hm
  have hlimited := decodeWindow_limitedTo (p := p) (bare := bare) w.length m le_rfl
  have hp : withMaxDepth p (some m) = p := by rw [withMaxDepth, ← hm]
  rw [hp] at hlimited
  show (match decodeWindow (withMaxDepth p none) bare w with | .ok fps => _ | .error k => _) ∧ _
  cases hfull : decodeWindow (withMaxDepth p none) bare w with
  | error k =>
    rw [hfull] at hlimited
    refine ⟨hlimited, fun fps hfps => ?_⟩
    obtain h | h := hlimited <;> cases hfps.symm.trans h
  | ok full =>
    rw [hfull] at hlimited
    obtain ⟨hkeep, hrefuse⟩ := hlimited
    refine ⟨?_, fun fps hfps => ?_⟩
    · dsimp only
      split
      case isTrue hwithin => exact hkeep hwithin
      case isFalse hdeep => exact hrefuse hdeep
    · by_cases hwithin : NestsWithin m full
      · obtain rfl := Except.ok.inj (hfps.symm.trans (hkeep hwithin))
        exact hwithin
      · cases hfps.symm.trans (hrefuse hwithin)

/-! ### The kinds of the decoders (R235) -/

/-- The kinds a decoder may raise: none of the three of the encoders. -/
abbrev IsDecodeKind (k : ErrKind) : Prop := k ∉ [ErrKind.typeMismatch, .arityError, .missingField]

theorem isDecodeKind_malformedFrame : IsDecodeKind .malformedFrame := by decide
theorem isDecodeKind_unknownDataType : IsDecodeKind .unknownDataType := by decide

/-- Every fault of a result is of a kind of the decoders. -/
def RaisesDecodeKinds {α : Type} (x : Except ErrKind α) : Prop := ∀ k, x = .error k → IsDecodeKind k

section
variable {α β : Type}

theorem raises_ok (a : α) : RaisesDecodeKinds (.ok a) := fun _ h => nomatch h

theorem raises_error {k : ErrKind} (h : IsDecodeKind k) : RaisesDecodeKinds (.error k : Except ErrKind α) :=
  fun _ h' => Except.error.inj h' ▸ h

theorem raises_malformed : RaisesDecodeKinds (.error .malformedFrame : Except ErrKind α) :=
  raises_error isDecodeKind_malformedFrame

theorem RaisesDecodeKinds.bind {x : Except ErrKind α} {f : α → Except ErrKind β} (hx : RaisesDecodeKinds x)
    (hf : ∀ a, RaisesDecodeKinds (f a)) : RaisesDecodeKinds (x >>= f) := by
  intro k h
  obtain h | ⟨a, -, h⟩ := Except.bind_eq_error_iff.mp h
  · exact hx k h
  · exact hf a k h

theorem RaisesDecodeKinds.map {x : Except ErrKind α} (f : α → β) (hx : RaisesDecodeKinds x) :
    RaisesDecodeKinds (x.map f) := fun k h => hx k (Except.map_eq_error_iff.mp h)

end

section
variable (p : Params) (w : Bytes) (pos : Nat)

theorem memReadBytes_raises (n : Nat) : RaisesDecodeKinds (memReadBytes w pos n) := fun _ h =>
  (memReadBytes_eq_error.mp h).2 ▸ isDecodeKind_malformedFrame

theorem memRead_raises (n : Nat) : RaisesDecodeKinds (memRead w pos n) := fun _ h =>
  (memRead_eq_error.mp h).2 ▸ isDecodeKind_malformedFrame

theorem vlpDec_raises : RaisesDecodeKinds (vlpDec w pos) := fun _ h => vlpDec_error_kind h ▸ isDecodeKind_malformedFrame

theorem decodeRun_raises : RaisesDecodeKinds (decodeRun w pos) := by
  unfold decodeRun
  split
  case h_1 k h => exact raises_error (vlpDec_raises w pos k h)
  case h_2 =>
    split
    case h_1 k h => exact raises_error (memReadBytes_raises w _ _ k h)
    case h_2 => exact raises_ok _

theorem valDec_raises (tag : Tag) : RaisesDecodeKinds (valDec tag w pos) := by
  cases tag with
  | boolean =>
    show RaisesDecodeKinds (decBoolean w pos)
    unfold decBoolean
    split
    case h_1 k h => exact raises_error (memRead_raises w pos 1 k h)
    case h_2 =>
      split
      · exact raises_error (by decide)
      · exact raises_ok _
  | json =>
    show RaisesDecodeKinds (decJson w pos)
    unfold decJson
    split
    case h_1 k h => exact raises_error (decodeRun_raises w pos k h)
    case h_2 =>
      split
      · exact raises_ok _
      · exact raises_error (by decide)
  | enum => exact (memRead_raises w pos 1).map _
  | integer | float | exception => exact (memRead_raises w pos 4).map _
  | buffer | string => exact (decodeRun_raises w pos).map _

theorem readFid_raises : RaisesDecodeKinds (readFid w pos) := (memRead_raises w pos 2).map _

theorem fidDec_raises (fid : Half) : RaisesDecodeKinds (fidDec fid) := by
  unfold fidDec
  split
  · exact raises_error isDecodeKind_unknownDataType
  · exact raises_ok _

theorem valSel_raises (fid : Half) : RaisesDecodeKinds (valSel p fid) := by
  unfold valSel
  split
  case h_1 k h => exact raises_error (fidDec_raises fid k h)
  case h_2 =>
    split
    · exact raises_error isDecodeKind_unknownDataType
    · exact raises_ok _

variable {p w pos}

theorem decodeFP_raises {inner : Nat → Bytes → Except ErrKind (List FunctionPoint)} {depth : Nat} {bare : Bool}
    (hinner : ∀ d body, RaisesDecodeKinds (inner d body)) : RaisesDecodeKinds (decodeFP p inner depth bare w pos) := by
  refine (readFid_raises w pos).bind fun fid => (fidDec_raises fid).bind fun f => ?_
  split
  · refine (vlpDec_raises w _).bind fun r => (memReadBytes_raises w _ _).bind fun body => ?_
    split
    · exact (hinner _ _).bind fun fps => raises_ok _
    · exact raises_malformed
  · split
    · exact raises_ok _
    · exact (valSel_raises p fid).bind fun tag => (valDec_raises w _ tag).bind fun r => raises_ok _

theorem decodeFPList_raises (bare : Bool) (fuel depth : Nat) (w : Bytes) (pos : Nat) :
    RaisesDecodeKinds (decodeFPList p bare fuel depth w pos) := by
  induction fuel generalizing depth w pos with
  | zero =>
    unfold decodeFPList
    split
    · exact raises_malformed
    · exact raises_ok _
  | succ fuel ih =>
    unfold decodeFPList
    split
    · exact (decodeFP_raises fun d body => ih d body 0).bind fun r => (ih depth w r.2).bind fun rest => raises_ok _
    · exact raises_ok _

theorem modeALoop_raises (now : TimeStamp) (i : Nat) (flat : List FunctionPoint)
    (groups : List (List (Half × TimedPoint))) (cur : List (Half × TimedPoint)) :
    RaisesDecodeKinds (modeALoop now i flat groups cur) := by
  induction flat generalizing i groups cur with
  | nil => exact raises_ok _
  | cons e flat ih =>
    unfold modeALoop
    split
    · split
      · exact raises_malformed
      · exact ih _ _ _
    · split
      · exact ih _ _ _
      · exact ih _ _ _

theorem modeA_raises (now : TimeStamp) (payload : Bytes) : RaisesDecodeKinds (modeA p now payload) := by
  refine (decodeFPList_raises false _ 0 payload 0).bind fun flat => ?_
  split
  · exact raises_ok _
  · exact modeALoop_raises now 0 flat [] []

theorem modeBEntry_raises (bareLast : Bool) : RaisesDecodeKinds (modeBEntry w pos bareLast) := by
  refine (readFid_raises w pos).bind fun fid => (fidDec_raises fid).bind fun _ => ?_
  split
  · exact raises_ok _
  · exact (valDec_raises w _ .string).bind fun r => raises_ok _

theorem modeBLoop_raises (n : Nat) (lastIsBare : Bool) (fuel pos : Nat) (groups : List (List (Half × Value)))
    (cur : List (Half × Value)) : RaisesDecodeKinds (modeBLoop n lastIsBare w fuel pos groups cur) := by
  induction fuel generalizing pos groups cur with
  | zero =>
    unfold modeBLoop
    split
    · exact raises_malformed
    · exact raises_ok _
  | succ fuel ih =>
    unfold modeBLoop
    split
    · refine (modeBEntry_raises _).bind fun ⟨e, next⟩ => ?_
      dsimp only
      split
      · exact ih _ _ _
      · exact ih _ _ _
    · split
      · exact raises_malformed
      · exact raises_ok _

theorem decodePayload_raises (now : TimeStamp) (c : Byte) (payload : Bytes) :
    RaisesDecodeKinds (decodePayload p now c payload) := by
  unfold decodePayload
  split
  · exact (decodeFPList_raises _ _ 0 payload 0).map _
  · exact (modeBLoop_raises _ _ _ 0 [] []).map _
  · exact (modeA_raises now payload).map _

theorem respCode_raises (m : Nat) (c : Byte) : RaisesDecodeKinds (respCode w m c) := by
  unfold respCode requireLength
  split
  · refine RaisesDecodeKinds.bind ?_ fun _ => (memRead_raises w _ 1).bind fun v => raises_ok _
    split
    · exact raises_malformed
    · exact raises_ok _
  · exact raises_ok _

/-- R235: no step of the parser raises a kind of the encoders. -/
theorem parseFrame_error_kind {now : TimeStamp} {k : ErrKind} {corr : Option Correlation}
    (h : parseFrame p now w = .error (k, corr)) : IsDecodeKind k := by
  cases hheader : parseHeader w with
  | error e =>
    rw [parseFrame_of_header_error hheader] at h
    obtain rfl := congrArg Prod.fst (Except.error.inj h)
    obtain rfl | rfl := parseHeader_error_kind hheader <;> decide
  | ok header =>
    have hbody : RaisesDecodeKinds (parseBody p now w header) :=
      (respCode_raises _ _).bind fun r => (decodePayload_raises now _ _).bind fun _ => raises_ok _
    cases hend : parseBody p now w header with
    | ok r => simp [parseFrame, hheader, hend] at h
    | error e =>
      rw [parseFrame_of_body_error hheader hend] at h
      obtain rfl := congrArg Prod.fst (Except.error.inj h)
      exact hbody e hend

end

/-- Settles O45: the kind of the record is that of the parser's fault, and the parser raises kinds of the decoders only. -/
theorem parseNeverRaisesEncodeKinds : Obligations.ParseNeverRaisesEncodeKinds := by
  intro vt s t hexec hvalid
  obtain ⟨k, corr, hparse, -, hkind, -⟩ := parseFrame_eq_error_of_valid hexec hvalid
  have hdecode := parseFrame_error_kind hparse
  rw [hkind]
  cases k with
  | typeMismatch | arityError | missingField => exact absurd (by decide) hdecode
  | _ => decide

end Sys2Proof.Machine
end

section
/-! PROOFS. The round trip of a device-level request (spec/45_parser.md R233): the bytes of each faithful entry are read back
as its function point, so the payload is read back as the entries, and the frame as the request. -/

namespace Sys2Proof.Machine

open Sys2Proof

/-! ### Reading entries back -/

theorem pointsOfList_pointsList (fps : FunctionPoints) : pointsOfList (pointsList fps) = fps := by
  induction fps using FunctionPoints.rec (motive_1 := fun _ => True) (motive_2 := fun _ => True) with
  | nil => rfl
  | cons fp fps _ ih => rw [pointsList, pointsOfList, ih]
  | _ => trivial

theorem deeper_of_unlimited {p : Params} (h : p.maxDepth = none) : deeper p = p := by
  rw [deeper, h, Option.map_none, ← h]

/-- A value whose type is not exception, and that the json decoder accepts if it is json, is read back (R131). -/
theorem valDec_valEnc {tag : Tag} {v : Value} {bs : Bytes} (rest : Bytes) (h : valEnc tag v = .ok bs)
    (htag : tag ≠ .exception) (hjson : jsonAccepted v = true) : valDec tag (bs ++ rest) 0 = .ok (v, bs.length) := by
  have hback := valuesRoundTrip.2 tag v bs rest h
  cases tag with
  | exception => exact absurd rfl htag
  | json =>
    cases v with
    | J js => exact hback.trans (if_pos hjson)
    | _ => cases h
  | _ => exact hback

section
variable {p : Params} {hi lo : Byte} {rest : Bytes}

/-- The bytes of a plain entry are read as its function point, and the list goes on behind them (R212). -/
theorem decodeWindow_plain {tag : Tag} {v : Value} {value : Bytes} (hdata : fidDataTypeBits (hi ++ lo) ≠ 0)
    (hcombine : (fieldsOf (hi ++ lo)).resourceType ≠ .combine) (htag : valSel p (hi ++ lo) = .ok tag)
    (hvalue : valDec tag (value ++ rest) 0 = .ok (v, value.length)) :
    decodeWindow p false (hi :: lo :: value ++ rest) =
      (decodeWindow p false rest).map (.mk (hi ++ lo) (fieldsOf (hi ++ lo)) v :: ·) := by
  have hfp := decodeFP_of_value (p := p) (inner := fun _ body => decodeWindow (deeper p) false body) (depth := 0)
    (rest := value ++ rest) hdata hcombine
  rw [htag] at hfp
  replace hfp := hfp.trans (congrArg (Except.map _) hvalue)
  rw [List.cons_append, List.cons_append, decodeWindow_of_ne_nil (List.cons_ne_nil _ _), hfp]
  simp [bind, Except.bind, Except.map]

/-- The bytes of a group are read as the group of what its inner bytes are read as, with no limit on nesting (R213). -/
theorem decodeWindow_group {pre inner : Bytes} {fps : List FunctionPoint} (hmax : p.maxDepth = none)
    (hdata : fidDataTypeBits (hi ++ lo) ≠ 0) (hcombine : (fieldsOf (hi ++ lo)).resourceType = .combine)
    (hpre : vlpEnc inner.length = .ok pre) (hinner : decodeWindow p false inner = .ok fps) :
    decodeWindow p false (hi :: lo :: (pre ++ inner) ++ rest) =
      (decodeWindow p false rest).map
        (.mk (hi ++ lo) (fieldsOf (hi ++ lo)) (.G (pointsOfList fps) false) :: ·) := by
  have hfp := decodeFP_of_combine (p := p) (inner := fun _ body => decodeWindow (deeper p) false body) (depth := 0)
    (bare := false) (rest := pre ++ inner ++ rest) hdata hcombine
  have hallowed : depthAllowed p (0 + 1) = true := by simp [depthAllowed, hmax]
  rw [List.append_assoc, vlpDec_vlpEnc _ hpre, deeper_of_unlimited hmax, hallowed] at hfp
  rw [List.cons_append, List.cons_append, List.append_assoc, decodeWindow_of_ne_nil (List.cons_ne_nil _ _),
    deeper_of_unlimited hmax, hfp]
  simp [bind, Except.bind, Except.map, hinner]

end

/-- What a plain entry is packed to (R180). -/
theorem encodeEntry_plain_eq_ok {fid : Half} {tag : Tag} {v : Value} {bs : Bytes}
    (h : encodeEntry false (.plain fid tag v) = .ok bs) :
    ∃ value, valEnc tag v = .ok value ∧ bs = fid.extractLsb' 8 8 :: fid.extractLsb' 0 8 :: value := by
  rw [encodeEntry_plain] at h
  obtain ⟨value, hvalue, rfl⟩ := Except.map_eq_ok_iff.mp h
  exact ⟨value, hvalue, rfl⟩

/-- What a group is packed to (R181). -/
theorem encodeEntry_group_eq_ok {gid : Half} {ps : Entries} {bs : Bytes}
    (h : encodeEntry false (.group gid ps) = .ok bs) :
    ∃ inner pre, encodeEntries false ps = .ok inner ∧ vlpEnc inner.length = .ok pre ∧
      bs = gid.extractLsb' 8 8 :: gid.extractLsb' 0 8 :: (pre ++ inner) := by
  rw [encodeEntry_group] at h
  obtain ⟨inner, hinner, h⟩ := Except.bind_eq_ok_iff.mp h
  rw [wrapTop_some] at h
  obtain ⟨pre, hpre, rfl⟩ := Except.map_eq_ok_iff.mp h
  exact ⟨inner, pre, hinner, hpre, rfl⟩

/-- What a list of entries is packed to (R179). -/
theorem encodeEntries_cons_eq_ok {e : Entry} {es : Entries} {bs : Bytes} (h : encodeEntries false (.cons e es) = .ok bs) :
    ∃ first rest, encodeEntry false e = .ok first ∧ encodeEntries false es = .ok rest ∧ bs = first ++ rest := by
  rw [encodeEntries_cons] at h
  obtain ⟨first, hfirst, h⟩ := Except.bind_eq_ok_iff.mp h
  obtain ⟨rest, hrest, rfl⟩ := Except.map_eq_ok_iff.mp h
  exact ⟨first, rest, hfirst, hrest, rfl⟩

/-- What a faithful plain entry is (R286). -/
theorem faithfulEntry_plain_iff {p : Params} {fid : Half} {tag : Tag} {v : Value} :
    faithfulEntry p (.plain fid tag v) = true ↔
      fidDataTypeBits fid ≠ 0 ∧ (fieldsOf fid).resourceType ≠ .combine ∧ valSel p fid = .ok tag ∧ tag ≠ .exception ∧
        jsonAccepted v = true := by
  simp [faithfulEntry, and_assoc]

/-- What a faithful group is (R286). -/
theorem faithfulEntry_group_iff {p : Params} {gid : Half} {ps : Entries} :
    faithfulEntry p (.group gid ps) = true ↔
      fidDataTypeBits gid ≠ 0 ∧ (fieldsOf gid).resourceType = .combine ∧ faithfulEntries p ps = true := by
  simp [faithfulEntry, and_assoc]

/-- The payload of faithful entries is read back as their function points, groups nested as they were (R233). -/
theorem decodeWindow_encodeEntries {p : Params} (hmax : p.maxDepth = none) :
    ∀ (es : Entries) {bs : Bytes}, faithfulEntries p es = true → encodeEntries false es = .ok bs →
      decodeWindow p false bs = .ok (pointsList (expectedPoints es))
  | .nil, bs, _, h => by
    obtain rfl := Except.ok.inj h
    rfl
  | .cons (.plain fid tag v) es, bs, hf, h => by
    obtain ⟨hentry, hes⟩ := (Bool.and_eq_true _ _).mp hf
    obtain ⟨hdata, hcombine, hsel, htag, hjson⟩ := faithfulEntry_plain_iff.mp hentry
    obtain ⟨first, rest, hfirst, hrest, rfl⟩ := encodeEntries_cons_eq_ok h
    obtain ⟨value, hvalue, rfl⟩ := encodeEntry_plain_eq_ok hfirst
    rw [← fidBytes_joined fid] at hdata hcombine hsel
    rw [decodeWindow_plain hdata hcombine hsel (valDec_valEnc rest hvalue htag hjson), fidBytes_joined,
      decodeWindow_encodeEntries hmax es hes hrest]
    rfl
  | .cons (.group gid ps) es, bs, hf, h => by
    obtain ⟨hentry, hes⟩ := (Bool.and_eq_true _ _).mp hf
    obtain ⟨hdata, hcombine, hps⟩ := faithfulEntry_group_iff.mp hentry
    obtain ⟨first, rest, hfirst, hrest, rfl⟩ := encodeEntries_cons_eq_ok h
    obtain ⟨inner, pre, hinner, hpre, rfl⟩ := encodeEntry_group_eq_ok hfirst
    rw [← fidBytes_joined gid] at hdata hcombine
    rw [decodeWindow_group hmax hdata hcombine hpre (decodeWindow_encodeEntries hmax ps hps hinner), fidBytes_joined,
      decodeWindow_encodeEntries hmax es hes hrest, pointsOfList_pointsList]
    rfl

/-- An entry takes at least the two bytes of its id. -/
theorem two_le_length_encodeEntries {es : Entries} {bs : Bytes} (hne : es ≠ .nil) (h : encodeEntries false es = .ok bs) :
    2 ≤ bs.length := by
  cases es with
  | nil => exact absurd rfl hne
  | cons e es =>
    obtain ⟨first, rest, hfirst, -, rfl⟩ := encodeEntries_cons_eq_ok h
    cases e with
    | plain fid tag v =>
      obtain ⟨value, -, rfl⟩ := encodeEntry_plain_eq_ok hfirst
      simp
    | group gid ps =>
      obtain ⟨inner, pre, -, -, rfl⟩ := encodeEntry_group_eq_ok hfirst
      simp

/-! ### The frame read back -/

/-- The version of a request is read back from its first byte (R173, R232). -/
theorem reportedVersion_firstByte {req : Request} (hlo : 1 ≤ req.rawVersion) (hhi : req.rawVersion ≤ 99) :
    reportedVersion (firstByte req) = req.rawVersion.toNat := by
  have hnum := toNat_firstByte hlo hhi
  obtain ⟨-, -, hid⟩ := firstByte_legal hlo hhi
  rw [reportedVersion, hid, versionFlag]
  split_ifs at hnum ⊢ <;> omega

/-- A response that passes the check for its response code has one in its frame, and a request has none (R176). -/
theorem isSome_frameCode {c : Byte} {code : Option Byte} (h : isResponse c = true → code.isSome = true) :
    (frameCode c code).isSome = isResponse c := by
  unfold frameCode
  cases hc : isResponse c with
  | false => rfl
  | true => simpa [hc] using h

/-- Settles O53: `PKG` stamps the frame of the entries, and `PARSE` takes it apart and reads the entries back. -/
theorem parseOfPackageReturnsRequest : Obligations.ParseOfPackageReturnsRequest := by
  intro vt vt' s req inner hreq hmax hlo hhi hdevice h01 hcode htight hgroup hfaithful hinner
  have h41 : opByte s.params req ≠ 0x41 := fun h => by rw [h] at hdevice; exact absurd hdevice (by decide)
  have hpackage := packageFrame_of_checks hlo hhi hcode (fun h => absurd h h01) (fun h => absurd h h41)
    (by rwa [decide_eq_false h01]) (by rw [hgroup]; rfl)
  obtain ⟨t, hexec, h⟩ := exec_pkg_packages vt s
  rw [hreq, hpackage] at h
  obtain ⟨hvalid, hobuf, -, -, -, -, hparams, -⟩ := h
  obtain ⟨hzero, hflag, hid⟩ := firstByte_legal hlo hhi
  have hparse := parseFrame_stampFrame t.params t.ports.now hzero hflag hid (isSome_frameCode hcode)
    fun h => two_le_length_encodeEntries (htight h) hinner
  have hbare : bareMode (opByte s.params req) = false := decide_eq_false h01
  have htreatment : treatmentOf (opByte s.params req) = .deviceLevel false := by simp [treatmentOf, hdevice, hbare]
  have hpayload : decodeWindow t.params false inner = .ok (pointsList (expectedPoints req.params)) :=
    hparams ▸ decodeWindow_encodeEntries hmax req.params hfaithful hinner
  rw [decodePayload_of_deviceLevel htreatment, hpayload] at hparse
  have hwindow : (Memory.ofBytes t.obuf.bytes).bytes = _ := (ofBytes_bytes _).trans (by rw [hobuf, ofBytes_bytes])
  obtain ⟨u, hexec', hvalid', hresult⟩ := exec_parse_completes (vt := vt')
    (s := { t with ibuf := Memory.ofBytes t.obuf.bytes }) ((congrArg (parseFrame _ _) hwindow).trans hparse)
  refine ⟨t, u, hexec, hvalid, hexec', hvalid', hresult.trans ?_⟩
  simp only [normalise, reportedVersion_firstByte hlo hhi]
  rfl

end Sys2Proof.Machine
end

section
/-! PROOFS. Mode A (spec/45_parser.md R221 to R224). The loop keeps that its groups, the open one included, are the timed
entries of a row of blocks, split at the group markers; a time marker goes to the last block, any other function point begins a new
one. -/

namespace Sys2Proof.Machine

open Sys2Proof

/-! ### Groups and their markers (R223) -/

/-- The ids of a row of groups: no group is empty, the group marker stands at the head of a group only, and every group but
the first begins with it. -/
def MarkerHeaded (keys : List (List Half)) : Prop :=
  (∀ g ∈ keys, g ≠ [] ∧ ∀ k ∈ g.tail, k ≠ groupMarker) ∧ ∀ g ∈ keys.tail, g.head? = some groupMarker

/-- A group that begins with the marker may follow. -/
theorem MarkerHeaded.concat_marker {keys : List (List Half)} (h : MarkerHeaded keys) (hne : keys ≠ []) :
    MarkerHeaded (keys ++ [[groupMarker]]) := by
  obtain ⟨hgroups, hheads⟩ := h
  refine ⟨fun g hg => ?_, fun g hg => ?_⟩
  · obtain hg | hg := List.mem_append.mp hg
    · exact hgroups g hg
    · obtain rfl := List.mem_singleton.mp hg
      simp
  · rw [List.tail_append_of_ne_nil hne] at hg
    obtain hg | hg := List.mem_append.mp hg
    · exact hheads g hg
    · obtain rfl := List.mem_singleton.mp hg
      rfl

/-- The last group may go on with any other id. -/
theorem MarkerHeaded.extend_last {keys : List (List Half)} {last : List Half} {k : Half}
    (h : MarkerHeaded (keys ++ [last])) (hk : k ≠ groupMarker) : MarkerHeaded (keys ++ [last ++ [k]]) := by
  obtain ⟨hgroups, hheads⟩ := h
  obtain ⟨hlast, htail⟩ := hgroups last (by simp)
  refine ⟨fun g hg => ?_, fun g hg => ?_⟩
  · obtain hg | hg := List.mem_append.mp hg
    · exact hgroups g (List.mem_append_left _ hg)
    · obtain rfl := List.mem_singleton.mp hg
      refine ⟨by simp, fun j hj => ?_⟩
      rw [List.tail_append_of_ne_nil hlast] at hj
      obtain hj | hj := List.mem_append.mp hj
      · exact htail j hj
      · exact List.mem_singleton.mp hj ▸ hk
  · cases keys with
    | nil => cases hg
    | cons first keys =>
      obtain hg | hg := List.mem_append.mp hg
      · exact hheads g (List.mem_append_left _ hg)
      · obtain rfl := List.mem_singleton.mp hg
        rw [List.head?_append_of_ne_nil _ hlast]
        exact hheads last (List.mem_append_right _ (List.mem_singleton_self last))

/-! ### Blocks and their times (R222) -/

/-- An entry and the time markers right after it. -/
def IsBlock (b : FunctionPoint × List FunctionPoint) : Prop :=
  pointId b.1 ≠ timeMarker ∧ ∀ m ∈ b.2, pointId m = timeMarker

/-- The function points of a row of blocks. -/
def blockPoints (blocks : List (FunctionPoint × List FunctionPoint)) : List FunctionPoint :=
  blocks.flatMap fun b => b.1 :: b.2

/-- The entry of a block, with the value of its last marker as its time. -/
def timedEntry (now : TimeStamp) (b : FunctionPoint × List FunctionPoint) : Half × TimedPoint :=
  (pointId b.1,
    { point := b.1
      time := match b.2.getLast? with
        | none => .atDecode now
        | some m => .marked (pointValue m) })

/-- The groups are the timed entries of the blocks, split at the group markers. -/
structure SplitInto (now : TimeStamp) (groups : List (List (Half × TimedPoint)))
    (blocks : List (FunctionPoint × List FunctionPoint)) : Prop where
  legal : ∀ b ∈ blocks, IsBlock b
  entries : groups.flatten = blocks.map (timedEntry now)
  headed : MarkerHeaded (groups.map (List.map Prod.fst))

section
variable {now : TimeStamp} {groups : List (List (Half × TimedPoint))} {cur : List (Half × TimedPoint)}
  {blocks : List (FunctionPoint × List FunctionPoint)} {e : FunctionPoint}

theorem isBlock_alone (h : pointId e ≠ timeMarker) : IsBlock (e, []) := ⟨h, fun _ hm => nomatch hm⟩

theorem SplitInto.legal_concat (h : SplitInto now groups blocks) (he : pointId e ≠ timeMarker) :
    ∀ b ∈ blocks ++ [(e, [])], IsBlock b := by
  intro b hb
  obtain hb | hb := List.mem_append.mp hb
  · exact h.legal b hb
  · exact List.mem_singleton.mp hb ▸ isBlock_alone he

theorem SplitInto.first (he : pointId e ≠ timeMarker) : SplitInto now [[timedEntry now (e, [])]] [(e, [])] where
  legal := fun b hb => List.mem_singleton.mp hb ▸ isBlock_alone he
  entries := rfl
  headed := ⟨by simp, by simp⟩

/-- A group marker begins a new block and a new group. -/
theorem SplitInto.begin_group (h : SplitInto now groups blocks) (hne : groups ≠ []) (he : pointId e = groupMarker) :
    SplitInto now (groups ++ [[timedEntry now (e, [])]]) (blocks ++ [(e, [])]) where
  legal := h.legal_concat (by rw [he]; decide)
  entries := by simp [h.entries]
  headed := by
    rw [List.map_append, List.map_singleton, List.map_singleton, timedEntry, he]
    exact h.headed.concat_marker (by simpa using hne)

/-- Any other entry begins a new block in the open group. -/
theorem SplitInto.extend_group (h : SplitInto now (groups ++ [cur]) blocks) (htime : pointId e ≠ timeMarker)
    (hgroup : pointId e ≠ groupMarker) :
    SplitInto now (groups ++ [cur ++ [timedEntry now (e, [])]]) (blocks ++ [(e, [])]) where
  legal := h.legal_concat htime
  entries := by
    rw [List.map_append, ← h.entries]
    simp
  headed := by
    have hheaded := h.headed
    rw [List.map_append, List.map_singleton] at hheaded ⊢
    rw [List.map_append, List.map_singleton]
    exact hheaded.extend_last hgroup

/-- The open group is not empty. -/
theorem SplitInto.exists_last (h : SplitInto now (groups ++ [cur]) blocks) : ∃ init last, cur = init ++ [last] := by
  have hne : cur ≠ [] := by simpa using (h.headed.1 (cur.map Prod.fst) (by simp)).1
  exact ⟨_, _, (List.dropLast_concat_getLast hne).symm⟩

/-- A time marker joins the last block, and its value is the time of the last entry. -/
theorem SplitInto.mark_last (h : SplitInto now (groups ++ [cur]) blocks) (he : pointId e = timeMarker) :
    ∃ cur' blocks', markLast cur (pointValue e) = some cur' ∧ SplitInto now (groups ++ [cur']) blocks' ∧
      blockPoints blocks' = blockPoints blocks ++ [e] := by
  obtain ⟨init, last, rfl⟩ := h.exists_last
  have hentries : groups.flatten ++ init ++ [last] = blocks.map (timedEntry now) := by simpa using h.entries
  obtain ⟨before, final, hblocks, hbefore, hfinal⟩ := List.map_eq_append_iff.mp hentries.symm
  obtain ⟨b, rfl, rfl⟩ := List.map_eq_singleton_iff.mp hfinal
  subst hblocks
  refine ⟨init ++ [timedEntry now (b.1, b.2 ++ [e])], before ++ [(b.1, b.2 ++ [e])], ?_, ⟨?_, ?_, ?_⟩, ?_⟩
  · simp [markLast, timedEntry]
  · intro b' hb'
    obtain hb' | hb' := List.mem_append.mp hb'
    · exact h.legal b' (List.mem_append_left _ hb')
    · obtain ⟨hid, hmarkers⟩ := h.legal b (by simp)
      obtain rfl := List.mem_singleton.mp hb'
      refine ⟨hid, fun m hm => ?_⟩
      obtain hm | hm := List.mem_append.mp hm
      · exact hmarkers m hm
      · exact List.mem_singleton.mp hm ▸ he
  · simp [hbefore]
  · simpa [timedEntry] using h.headed
  · simp [blockPoints]

end

/-! ### The loop (R223) -/

/-- Once a group is open, the loop completes, and splits what is left behind what it has split. -/
theorem modeALoop_splits (now : TimeStamp) {i : Nat} (hi : i ≠ 0) (flat : List FunctionPoint)
    {groups : List (List (Half × TimedPoint))} {cur : List (Half × TimedPoint)}
    {blocks : List (FunctionPoint × List FunctionPoint)} (h : SplitInto now (groups ++ [cur]) blocks) :
    ∃ groups' blocks', modeALoop now i flat groups cur = .ok groups' ∧ SplitInto now groups' blocks' ∧
      blockPoints blocks' = blockPoints blocks ++ flat := by
  induction flat generalizing i groups cur blocks with
  | nil => exact ⟨_, _, rfl, h, (List.append_nil _).symm⟩
  | cons e flat ih =>
    have hnext (groups' cur' blocks') (hpoints : blockPoints blocks' = blockPoints blocks ++ [e])
        (hsplit : SplitInto now (groups' ++ [cur']) blocks') :
        ∃ out blocks'', modeALoop now (i + 1) flat groups' cur' = .ok out ∧ SplitInto now out blocks'' ∧
          blockPoints blocks'' = blockPoints blocks ++ e :: flat := by
      obtain ⟨out, blocks'', hloop, hout, hrest⟩ := ih i.succ_ne_zero hsplit
      exact ⟨out, blocks'', hloop, hout, by rw [hrest, hpoints, List.append_assoc]; rfl⟩
    have hpoints : blockPoints (blocks ++ [(e, [])]) = blockPoints blocks ++ [e] := by simp [blockPoints]
    by_cases htime : pointId e = timeMarker
    · obtain ⟨cur', blocks', hmark, hsplit, hjoined⟩ := h.mark_last htime
      simp only [modeALoop, htime, if_true, hmark]
      exact hnext _ _ _ hjoined hsplit
    by_cases hgroup : pointId e = groupMarker
    · rw [modeALoop, if_neg htime, if_pos ⟨hgroup, hi⟩]
      exact hnext _ _ _ hpoints (h.begin_group (by simp) hgroup)
    · rw [modeALoop, if_neg htime, if_neg (fun hboth => hgroup hboth.1)]
      exact hnext _ _ _ hpoints (h.extend_group htime hgroup)

/-- A list that does not begin with a time marker is split into its blocks. -/
theorem modeALoop_of_entry (now : TimeStamp) {e : FunctionPoint} (flat : List FunctionPoint)
    (he : pointId e ≠ timeMarker) :
    ∃ groups blocks, modeALoop now 0 (e :: flat) [] [] = .ok groups ∧ SplitInto now groups blocks ∧
      blockPoints blocks = e :: flat := by
  rw [modeALoop, if_neg he, if_neg (fun hboth => hboth.2 rfl)]
  exact modeALoop_splits now Nat.one_ne_zero flat (groups := []) (SplitInto.first he)

/-- Settles O50: an empty list has no group, a list that begins with a time marker has no entry to mark, and any other is
split into its blocks. -/
theorem modeAGroupsSplitAtMarkers : Obligations.ModeAGroupsSplitAtMarkers := by
  intro p now payload
  cases hflat : decodeWindow p false payload with
  | error k => simp [modeA, hflat, bind, Except.bind]
  | ok flat =>
    have hmode : modeA p now payload = if flat.isEmpty then .ok [] else modeALoop now 0 flat [] [] := by
      simp [modeA, hflat, bind, Except.bind]
    dsimp only
    rw [hmode]
    cases flat with
    | nil => exact ⟨[], [], by simp⟩
    | cons e flat =>
      by_cases htime : pointId e = timeMarker
      · have hhead : (e :: flat).head?.map pointId = some 0xE803 := congrArg some htime
        rw [if_pos hhead]
        simp [modeALoop, htime, markLast]
      · have hhead : (e :: flat).head?.map pointId ≠ some 0xE803 := fun h => htime (Option.some.inj h)
        rw [if_neg hhead]
        obtain ⟨groups, blocks, hloop, ⟨hlegal, hentries, hgroups, hheads⟩, hpoints⟩ := modeALoop_of_entry now flat htime
        refine ⟨groups, blocks, hloop, hpoints.symm, hlegal, hentries, fun g hg => ?_, fun g hg => ?_⟩
        · obtain ⟨hne, hkeys⟩ := hgroups _ (List.mem_map_of_mem hg)
          refine ⟨by simpa using hne, fun e he => hkeys e.1 ?_⟩
          rw [← List.map_tail]
          exact List.mem_map_of_mem he
        · rw [← List.head?_map]
          refine hheads _ ?_
          rw [← List.map_tail]
          exact List.mem_map_of_mem hg

end Sys2Proof.Machine
end

section
/-! PROOFS. Mode B (spec/45_parser.md R225 to R228). The loop reads the entries of a payload one by one (`modeBLoop_wire`),
keeping that its groups are full and that the open one is what is left over; what follows the entries ends it. -/

namespace Sys2Proof.Machine

open Sys2Proof

/-! ### One entry (R226, R227) -/

/-- A read inside a window is the same read in a longer one. -/
theorem memRead_append {w : Bytes} {pos n v : Nat} (more : Bytes) (h : memRead w pos n = .ok v) :
    memRead (w ++ more) pos n = .ok v := by
  obtain ⟨hle, rfl⟩ := memRead_eq_ok.mp h
  rw [memRead_ok (by rw [List.length_append]; omega), List.drop_append_of_le_length (by omega),
    List.take_append_of_le_length (by rw [List.length_drop]; omega)]

/-- A length word is read as its length, whatever follows it (R162, R163). -/
theorem vlpDec_append {w : Bytes} {pos len k : Nat} (more : Bytes) (h : vlpDec w pos = .ok (len, k)) :
    vlpDec (w ++ more) pos = .ok (len, k) := by
  obtain ⟨b0, hfirst, hsize, v, hall, hlen⟩ := vlpDec_eq_ok.mp h
  exact vlpDec_eq_ok.mpr ⟨b0, memRead_append more hfirst, hsize, v, memRead_append more hall, hlen⟩

/-- What stands behind the id at an offset is read as it is in a window of its own. -/
theorem decString_behind_fid {w rest : Bytes} {pos : Nat} {hi lo : Byte} (h : w.drop pos = hi :: lo :: rest) :
    decString w (pos + 2) = decString rest 0 := by
  have hrest : w.drop (pos + 2) = rest := by rw [← List.drop_drop, h]; rfl
  have hle : pos + 2 ≤ w.length := by
    have hlen := congrArg List.length h
    rw [List.length_drop, List.length_cons, List.length_cons] at hlen
    omega
  exact (valDec_drop hle 0 .string).trans (by rw [hrest]; rfl)

section
variable {w rest : Bytes} {pos : Nat} {hi lo : Byte}

/-- R227: the id alone. -/
theorem modeBEntry_of_idOnly (hdrop : w.drop pos = hi :: lo :: rest) (hdata : fidDataTypeBits (hi ++ lo) ≠ 0) :
    modeBEntry w pos true = .ok ((hi ++ lo, .Absent), pos + 2) := by
  simp [modeBEntry, readFid_of_drop hdrop, fidDec_of_ne hdata, bind, Except.bind]

/-- R226: the id, and the string behind it. -/
theorem modeBEntry_of_string (hdrop : w.drop pos = hi :: lo :: rest) (hdata : fidDataTypeBits (hi ++ lo) ≠ 0) :
    modeBEntry w pos false = (decString rest 0).map fun r => ((hi ++ lo, r.1), pos + 2 + r.2) := by
  simp only [modeBEntry, readFid_of_drop hdrop, fidDec_of_ne hdata, decString_behind_fid hdrop, bind, Except.bind,
    Bool.false_eq_true, if_false]
  cases decString rest 0 <;> rfl

/-- R226: the data type bits are checked. -/
theorem modeBEntry_of_zero (bareLast : Bool) (hdrop : w.drop pos = hi :: lo :: rest)
    (hdata : fidDataTypeBits (hi ++ lo) = 0) : modeBEntry w pos bareLast = .error .unknownDataType := by
  simp [modeBEntry, readFid_of_drop hdrop, fidDec_of_zero hdata, bind, Except.bind]

/-- R218: one byte left over is a truncated id. -/
theorem modeBEntry_of_short (bareLast : Bool) (hdrop : w.drop pos = [lo]) :
    modeBEntry w pos bareLast = .error .malformedFrame := by
  simp [modeBEntry, readFid_of_short (w := w) (pos := pos) (by simp [hdrop]), bind, Except.bind]

end

/-! ### Groups of a fixed count (R228) -/

/-- The entries read so far are in groups of `n`, and fewer than `n` of them are left over. -/
structure FilledWith (n : Nat) (items : List (Half × Value)) (groups : List (List (Half × Value)))
    (cur : List (Half × Value)) : Prop where
  full : ∀ g ∈ groups, g.length = n
  short : cur.length < n
  entries : groups.flatten ++ cur = items

section
variable {n : Nat} {items : List (Half × Value)} {groups : List (List (Half × Value))} {cur : List (Half × Value)}

theorem FilledWith.length_mod (h : FilledWith n items groups cur) : items.length % n = cur.length := by
  have hflat : groups.flatten.length = groups.length * n := by
    rw [List.length_flatten, List.map_congr_left h.full, List.map_const', List.sum_replicate, smul_eq_mul]
  rw [← h.entries, List.length_append, hflat, Nat.mul_comm, Nat.mul_add_mod, Nat.mod_eq_of_lt h.short]

/-- The next entry is the last of its group exactly where its index says so. -/
theorem FilledWith.last_iff (h : FilledWith n items groups cur) :
    cur.length + 1 = n ↔ (items.length + 1) % n = 0 := by
  have hshort := h.short
  rw [Nat.add_mod, h.length_mod]
  obtain hn | hn := Nat.lt_or_ge 1 n
  · rw [Nat.mod_eq_of_lt hn]
    obtain hlast | hlast := Nat.lt_or_ge (cur.length + 1) n
    · rw [Nat.mod_eq_of_lt hlast]
      omega
    · obtain hlast : cur.length + 1 = n := by omega
      simp [hlast]
  · obtain rfl : n = 1 := by omega
    exact iff_of_true (by omega) (Nat.mod_one _)

theorem FilledWith.close (h : FilledWith n items groups cur) (hlast : cur.length + 1 = n) (e : Half × Value) :
    FilledWith n (items ++ [e]) (groups ++ [cur ++ [e]]) [] where
  full := by
    intro g hg
    obtain hg | hg := List.mem_append.mp hg
    · exact h.full g hg
    · obtain rfl := List.mem_singleton.mp hg
      simpa using hlast
  short := Nat.lt_of_lt_of_le (Nat.succ_pos _) hlast.le
  entries := by simp [← h.entries]

theorem FilledWith.extend (h : FilledWith n items groups cur) (hlast : cur.length + 1 ≠ n) (e : Half × Value) :
    FilledWith n (items ++ [e]) groups (cur ++ [e]) where
  full := h.full
  short := by
    have hshort := h.short
    rw [List.length_append, List.length_singleton]
    omega
  entries := by simp [← h.entries]

end

/-! ### The loop (R228) -/

section
variable {n : Nat} {lastIsBare : Bool} {w : Bytes} {fuel pos : Nat} {groups : List (List (Half × Value))}
  {cur : List (Half × Value)}

/-- At the window end a group left open is refused. -/
theorem modeBLoop_of_end (h : w.length ≤ pos) :
    modeBLoop n lastIsBare w fuel pos groups cur = if cur ≠ [] then .error .malformedFrame else .ok groups := by
  cases fuel <;> simp [modeBLoop, Nat.not_lt.mpr h]

/-- A fault of an entry is the fault. -/
theorem modeBLoop_of_error {k : ErrKind} (h : pos < w.length)
    (he : modeBEntry w pos (lastIsBare && decide (cur.length + 1 = n)) = .error k) :
    modeBLoop n lastIsBare w (fuel + 1) pos groups cur = .error k := by
  simp [modeBLoop, h, he, bind, Except.bind]

/-- An entry that is read joins the open group, and closes it as its last one. -/
theorem modeBLoop_of_entry {items : List (Half × Value)} {e : Half × Value} {next : Nat}
    (hfilled : FilledWith n items groups cur) (h : pos < w.length)
    (he : modeBEntry w pos (lastIsBare && decide (cur.length + 1 = n)) = .ok (e, next)) :
    ∃ groups' cur', FilledWith n (items ++ [e]) groups' cur' ∧
      modeBLoop n lastIsBare w (fuel + 1) pos groups cur = modeBLoop n lastIsBare w fuel next groups' cur' := by
  by_cases hlast : cur.length + 1 = n
  · refine ⟨_, _, hfilled.close hlast e, ?_⟩
    rw [modeBLoop, if_pos h, he]
    exact if_pos hlast
  · refine ⟨_, _, hfilled.extend hlast e, ?_⟩
    rw [modeBLoop, if_pos h, he]
    exact if_neg hlast

end

/-- What the entry of this index is read as. -/
def wireItem (n : Nat) (lastIsBare : Bool) (i : Nat) (e : WireEntry) : Half × Value :=
  (e.fid, if isIdOnly n lastIsBare i then .Absent else .S e.text)

theorem wireItem_eq (n : Nat) (lastIsBare : Bool) :
    wireItem n lastIsBare = fun i e =>
      (e.fid, if lastIsBare = true ∧ (i + 1) % n = 0 then .Absent else .S e.text) := by
  funext i e
  simp [wireItem, isIdOnly]

/-- The open group says of the next entry what its index says (R227). -/
theorem FilledWith.idOnly_eq {n : Nat} {lastIsBare : Bool} {entries : List WireEntry}
    {groups : List (List (Half × Value))} {cur : List (Half × Value)}
    (h : FilledWith n (entries.mapIdx (wireItem n lastIsBare)) groups cur) :
    (lastIsBare && decide (cur.length + 1 = n)) = isIdOnly n lastIsBare entries.length := by
  have hiff := h.last_iff
  rw [List.length_mapIdx] at hiff
  simp [isIdOnly, hiff, Bool.beq_eq_decide_eq]

/-- The wire form of one entry is read as the entry. -/
theorem modeBEntry_wire {n : Nat} {lastIsBare : Bool} {i : Nat} {e : WireEntry} {w more : Bytes} {pos : Nat}
    (he : e.legal)
    (hdrop : w.drop pos = e.fid.extractLsb' 8 8 :: e.fid.extractLsb' 0 8 ::
      ((if isIdOnly n lastIsBare i then [] else e.lenBytes ++ e.text) ++ more)) :
    ∃ next, modeBEntry w pos (isIdOnly n lastIsBare i) = .ok (wireItem n lastIsBare i e, next) ∧ pos + 2 ≤ next ∧
      w.drop next = more := by
  obtain ⟨hdata, hprefix⟩ := he
  rw [← fidBytes_joined e.fid] at hdata
  rw [wireItem]
  cases hbare : isIdOnly n lastIsBare i with
  | true =>
    simp only [hbare, if_true, List.nil_append] at hdrop ⊢
    refine ⟨pos + 2, ?_, le_rfl, by rw [← List.drop_drop, hdrop]; rfl⟩
    rw [modeBEntry_of_idOnly hdrop hdata, fidBytes_joined]
  | false =>
    simp only [hbare, Bool.false_eq_true, if_false, List.append_assoc] at hdrop ⊢
    have hrun : decodeRun (e.lenBytes ++ (e.text ++ more)) 0 = .ok (e.text, e.lenBytes.length + e.text.length) := by
      rw [decodeRun_of_le (vlpDec_append _ hprefix) (by simp)]
      simp
    refine ⟨pos + 2 + (e.lenBytes.length + e.text.length), ?_, Nat.le_add_right _ _, ?_⟩
    · rw [modeBEntry_of_string hdrop hdata, decString_of_run hrun, fidBytes_joined]
      rfl
    · rw [Nat.add_assoc, ← List.drop_drop, hdrop, ← List.drop_drop, List.drop_succ_cons, List.drop_succ_cons,
        List.drop_zero, ← List.append_assoc, ← List.length_append, List.drop_left]

/-- The loop reads the entries that are left, and stands before what follows them. -/
theorem modeBLoop_wire {n : Nat} {lastIsBare : Bool} {w tail : Bytes} {fuel pos : Nat}
    {groups : List (List (Half × Value))} {cur : List (Half × Value)} {done : List WireEntry} (todo : List WireEntry)
    (hfilled : FilledWith n (done.mapIdx (wireItem n lastIsBare)) groups cur)
    (hdrop : w.drop pos = modeBWire n lastIsBare done.length todo ++ tail) (hfuel : w.length ≤ pos + fuel)
    (hlegal : ∀ e ∈ todo, e.legal) :
    ∃ fuel' pos' groups' cur', w.drop pos' = tail ∧ w.length ≤ pos' + fuel' ∧
      FilledWith n ((done ++ todo).mapIdx (wireItem n lastIsBare)) groups' cur' ∧
      modeBLoop n lastIsBare w fuel pos groups cur = modeBLoop n lastIsBare w fuel' pos' groups' cur' := by
  induction todo generalizing fuel pos groups cur done with
  | nil => exact ⟨fuel, pos, groups, cur, hdrop, hfuel, by rwa [List.append_nil], rfl⟩
  | cons e todo ih =>
    rw [modeBWire, List.cons_append, List.cons_append, List.append_assoc] at hdrop
    obtain ⟨next, hentry, hnext, hmore⟩ := modeBEntry_wire (hlegal e List.mem_cons_self) hdrop
    have hpos : pos < w.length := by
      by_contra hge
      rw [List.drop_eq_nil_of_le (Nat.not_lt.mp hge)] at hdrop
      cases hdrop
    obtain ⟨fuel, rfl⟩ := Nat.exists_eq_succ_of_ne_zero (show fuel ≠ 0 by omega)
    obtain ⟨groups', cur', hfilled', hloop⟩ := modeBLoop_of_entry (fuel := fuel) hfilled hpos
      (hfilled.idOnly_eq ▸ hentry)
    rw [← List.mapIdx_concat] at hfilled'
    obtain ⟨fuel', pos', out, left, htail, hfuel', hout, hrest⟩ := ih (fuel := fuel) (done := done ++ [e]) hfilled'
      (by rw [hmore, List.length_append]; rfl) (by omega) (fun e' he' => hlegal e' (List.mem_cons_of_mem e he'))
    exact ⟨fuel', pos', out, left, htail, hfuel', by simpa using hout, hloop.trans hrest⟩

/-- Mode B over entries and what follows them: the loop stands before that with the entries in groups. -/
theorem modeB_wire {n : Nat} (lastIsBare : Bool) {entries : List WireEntry} (tail : Bytes) (hn : 1 ≤ n)
    (hlegal : ∀ e ∈ entries, e.legal) :
    ∃ w fuel pos groups cur, w.drop pos = tail ∧ w.length ≤ pos + fuel ∧
      FilledWith n (entries.mapIdx (wireItem n lastIsBare)) groups cur ∧
      modeB n lastIsBare (modeBWire n lastIsBare 0 entries ++ tail) = modeBLoop n lastIsBare w fuel pos groups cur := by
  obtain ⟨fuel, pos, groups, cur, htail, hfuel, hfilled, hloop⟩ :=
    modeBLoop_wire (n := n) (lastIsBare := lastIsBare) (w := modeBWire n lastIsBare 0 entries ++ tail) (tail := tail)
      (fuel := (modeBWire n lastIsBare 0 entries ++ tail).length) (pos := 0) (groups := []) (cur := []) (done := [])
      entries ⟨fun g hg => (nomatch hg), hn, rfl⟩ rfl (by omega) hlegal
  exact ⟨_, fuel, pos, groups, cur, htail, hfuel, hfilled, hloop⟩

/-- Behind the entries, what is no entry is the fault. -/
theorem modeB_of_tail_error {n : Nat} {lastIsBare : Bool} {entries : List WireEntry} {tail : Bytes} {k : ErrKind}
    (hn : 1 ≤ n) (hlegal : ∀ e ∈ entries, e.legal) (htail : tail ≠ [])
    (herror : ∀ w pos, w.drop pos = tail → modeBEntry w pos (isIdOnly n lastIsBare entries.length) = .error k) :
    modeB n lastIsBare (modeBWire n lastIsBare 0 entries ++ tail) = .error k := by
  obtain ⟨w, fuel, pos, groups, cur, hdrop, hfuel, hfilled, hloop⟩ := modeB_wire lastIsBare tail hn hlegal
  have hpos : pos < w.length := by
    by_contra hge
    exact htail (hdrop ▸ List.drop_eq_nil_of_le (Nat.not_lt.mp hge))
  obtain ⟨fuel, rfl⟩ := Nat.exists_eq_succ_of_ne_zero (show fuel ≠ 0 by omega)
  rw [hloop, modeBLoop_of_error hpos (hfilled.idOnly_eq ▸ herror w pos hdrop)]

/-- Settles O51: with nothing behind them the entries are in groups, and one is left open or not; else what follows them is
the fault. -/
theorem modeBGroupsHaveFixedCount : Obligations.ModeBGroupsHaveFixedCount := by
  intro n lastIsBare entries tail hn hlegal
  match tail with
  | [] =>
    obtain ⟨w, fuel, pos, groups, cur, hdrop, -, hfilled, hloop⟩ := modeB_wire lastIsBare [] hn hlegal
    rw [List.append_nil, modeBLoop_of_end (List.drop_eq_nil_iff.mp hdrop)] at hloop
    have hmod := hfilled.length_mod
    rw [List.length_mapIdx] at hmod
    dsimp only
    rw [hloop, hmod]
    split
    case isTrue hzero =>
      obtain rfl := List.eq_nil_of_length_eq_zero hzero
      refine ⟨groups, if_neg (not_not_intro rfl), hfilled.full, ?_⟩
      have hentries := hfilled.entries
      rw [List.append_nil] at hentries
      rw [hentries, wireItem_eq]
    case isFalse hopen => exact if_pos fun hnil => hopen (congrArg List.length hnil)
  | [b] =>
    exact modeB_of_tail_error hn hlegal (List.cons_ne_nil _ _) fun w pos hdrop => modeBEntry_of_short _ hdrop
  | hi :: lo :: rest =>
    dsimp only
    split
    case isTrue hzero =>
      exact modeB_of_tail_error hn hlegal (List.cons_ne_nil _ _) fun w pos hdrop =>
        modeBEntry_of_zero _ hdrop (fidDataTypeBits_append_eq_zero_iff_lt.mpr hzero)
    case isFalse hdata =>
      intro hvalue
      have hbare : isIdOnly n lastIsBare entries.length = false := by simpa [isIdOnly] using hvalue
      have hfault (hrun : decodeRun rest 0 = .error .malformedFrame) :
          modeB n lastIsBare (modeBWire n lastIsBare 0 entries ++ hi :: lo :: rest) = .error .malformedFrame := by
        obtain ⟨-, hstring, -⟩ := runDecoders_of_error hrun
        refine modeB_of_tail_error hn hlegal (List.cons_ne_nil _ _) fun w pos hdrop => ?_
        rw [hbare, modeBEntry_of_string hdrop (mt fidDataTypeBits_append_eq_zero_iff_lt.mp hdata), hstring]
        rfl
      split
      case h_1 k hprefix =>
        obtain rfl := vlpDec_error_kind hprefix
        exact hfault (decodeRun_of_vlpDec_error hprefix)
      case h_2 len k hprefix =>
        intro hshort
        exact hfault (decodeRun_of_lt hprefix (by omega))

end Sys2Proof.Machine
end

section
/-! PROOFS. Faults (spec/60_exceptions.md). Every command ends, completed or faulted, and the error kind rows fault with the
kind they name. -/

namespace Sys2Proof.Machine

open Sys2Proof

/-! ### Every command ends (R250) -/

/-- Settles O9: what an instruction sees of a state is its ending, and an ending leaves a state. -/
theorem everyCommandEnds : Obligations.EveryCommandEnds := by
  intro i s hi
  obtain ⟨f, -, hrun⟩ := exec_endsByView i hi
  exact ⟨(f s.view).run s, hrun s⟩

/-! ### The error kind rows (R251, R261, R264) -/

/-- A row that raises a kind takes its fault, and `ERR.kind` holds the kind's number. -/
theorem exec_faults_of_raise {i : Instr} {s : State} {kind : ErrKind} {number : Byte} (hexec : exec i s = raise kind s)
    (hcode : (errKindCode kind).toNat = number.toNat) :
    ∃ t, exec i s = .next t ∧ FaultedWith s t kind none ∧ t.err.kind.toNat = number.toNat :=
  ⟨takeFault kind none s, hexec, takeFault_spec kind none s, hcode⟩

/-- The rows that are read as error kinds are the eight of R251. -/
theorem errorKindRow_mem {i : Instr} (hf : i.format = .errkind) :
    i ∈ [Instr.errkind1MalformedFrame, .errkind2IntegrityError, .errkind3UnknownDataType, .errkind4ValueOutOfRange,
      .errkind5TypeMismatch, .errkind6ArityError, .errkind7JsonParseError, .errkind8MissingField] := by
  cases i with
  | errkind1MalformedFrame | errkind2IntegrityError | errkind3UnknownDataType | errkind4ValueOutOfRange
  | errkind5TypeMismatch | errkind6ArityError | errkind7JsonParseError | errkind8MissingField => simp
  | _ => cases hf

/-- Settles O60: no row of another format is an error kind, and each of the eight rows raises its kind. -/
theorem errorKindRowsFault : Obligations.ErrorKindRowsFault := by
  refine ⟨fun i => errorKindRow_mem, fun s i kind number hrow => ?_⟩
  simp only [List.mem_cons, List.not_mem_nil, or_false, Prod.mk.injEq] at hrow
  obtain ⟨rfl, rfl, rfl⟩ | ⟨rfl, rfl, rfl⟩ | ⟨rfl, rfl, rfl⟩ | ⟨rfl, rfl, rfl⟩ | ⟨rfl, rfl, rfl⟩ | ⟨rfl, rfl, rfl⟩ |
    ⟨rfl, rfl, rfl⟩ | ⟨rfl, rfl, rfl⟩ := hrow
  all_goals exact ⟨rfl, exec_faults_of_raise rfl rfl⟩

end Sys2Proof.Machine
end

section
/-! PROOFS. Reset and steps (spec/70_reset_and_hazards.md). What one step does for each form of the host's list, the values a
reset leaves, and that the fuel of the list decoder decides nothing. -/

namespace Sys2Proof.Machine

open Sys2Proof

/-! ### One step per form of the host's list (R295) -/

section
variable {s : State} {i : Issue} {rest : List HostAction}

theorem step_of_idle (hs : s.script = []) : step s = .next s := by simp only [step, hs]

theorem step_of_reset (hs : s.script = .reset :: rest) : step s = .next (takeReset rest s) := by simp only [step, hs]

theorem step_of_illegalWord {e : DecodeError} (hs : s.script = .command i :: rest) (hfetch : fetch i = .error e) :
    step s = .fault (.illegalWord e) := by simp only [step, hs, hfetch]

theorem step_of_command {instr : Instr} (hs : s.script = .command i :: rest) (hfetch : fetch i = .ok instr) :
    step s = exec instr (accept i rest s) := by simp only [step, hs, hfetch]

end

/-- Settles O4: the state the instruction runs on is the accepted one; its input, configuration and operands are the command's
where it hands them over. -/
theorem stepRunsDecodedInstruction : Obligations.StepRunsDecodedInstruction := by
  intro s i rest instr hs hfetch
  rw [step_of_command hs hfetch]
  unfold accept
  congr 2
  case e_s.e_params => cases i.params <;> rfl
  case e_s.e_ports => cases i.operands <;> rfl

/-- Settles O5: an empty list is an idle step, and a command whose word is none of its format is not executed. -/
theorem stepWithoutInstruction : Obligations.StepWithoutInstruction :=
  ⟨fun _ => step_of_idle, fun _ _ _ _ => step_of_illegalWord⟩

/-! ### The values after reset (R280, R281) -/

/-- Settles O1: the values of R281 in `State.reset`, which `resetBlock` takes over, and the step of a reset. -/
theorem resetLeavesSpecifiedValues : Obligations.ResetLeavesSpecifiedValues := by
  refine ⟨⟨rfl, rfl, rfl, rfl, rfl, rfl, rfl⟩, fun s => ?_, fun s rest => step_of_reset⟩
  simp [Memory.bytes]

/-- The default configuration is a legal one (R9). -/
theorem paramsWf_defaultParams : paramsWf defaultParams = true := by decide

/-- Settles O2: the byte spaces are empty and `STEP` is 1, `ERR` is not valid, the configuration is the default, and the host's
list is empty. -/
theorem resetMeetsInvariant : Obligations.ResetMeetsInvariant := by
  have hstep : 1 ≤ State.reset.stepCtr ∧ State.reset.stepCtr ≤ 9 := by decide
  have herr : State.reset.err.valid ≠ true := Bool.false_ne_true
  exact ⟨rfl, rfl, hstep.1, hstep.2, paramsWf_defaultParams, fun hvalid => absurd hvalid herr, fun _ ha => nomatch ha⟩

/-! ### The fuel of the list decoder (R293) -/

/-- Settles O49: the list at an offset is the list of the bytes behind it, and both amounts of fuel cover those bytes. -/
theorem listDecoderNeedsNoMoreFuel : Obligations.ListDecoderNeedsNoMoreFuel := by
  intro p bare fuel depth w pos hfuel
  have hbehind : (w.drop pos).length ≤ fuel := by rw [List.length_drop]; omega
  calc decodeFPList p bare fuel depth w pos
      = decodeFPList p bare fuel depth (w.drop pos) 0 := decodeFPList_drop fuel depth w pos
    _ = decodeFPList p bare (w.length - pos) depth (w.drop pos) 0 :=
      decodeFPList_fuel_irrelevant depth hbehind List.length_drop.le
    _ = decodeFPList p bare (w.length - pos) depth w pos := (decodeFPList_drop _ depth w pos).symm

end Sys2Proof.Machine
end
